-- ==== Sys2Proof/Word.lean ====
section
/-! DEFINITION. The byte of an instruction stream and the record `Cost` in which the model counts (R8). -/

namespace Sys2Proof

/-- A byte of the instruction stream. -/
abbrev Byte := BitVec 8

/-- R8: a cost is a record of six natural numbers; a component not written is 0.
`c` counts E Box cycles, `r` counted memory reads, `w` counted memory writes, and `rst`, `pfl`, `mpr` how many
times the pipeline restart, pipeline flush and branch mispredict delays are incurred. -/
structure Cost where
  c   : Nat := 0
  r   : Nat := 0
  w   : Nat := 0
  rst : Nat := 0
  pfl : Nat := 0
  mpr : Nat := 0
  deriving DecidableEq, Repr

end Sys2Proof
end

