-- ==== Sys2Proof/Syntax.lean ====
section
/-! DEFINITION. The syntax of the model: operand notation (R16, R83), operand specifiers (R84 to R86),
the 263 mnemonics and the 263 instructions, one constructor for each row of the opcode table (R98). -/

namespace Sys2Proof

/-- Access type of an operand (R16): a = address, b = branch displacement, m = modified, r = read only,
v = field, w = write only. -/
inductive Access where
  | a | b | m | r | v | w
  deriving DecidableEq, Repr

/-- Data type of an operand that is written in the instruction (R16): byte, word, longword, quadword,
f_floating, d_floating, g_floating. -/
inductive DType where
  | b | w | l | q | f | d | g
  deriving DecidableEq, Repr

/-- Data length of an unaligned operand (R61, R62); a byte operand has no adder, so there is no byte here. -/
inductive Len where
  | w | l | q
  deriving DecidableEq, Repr

/-- One entry of a row's operand list (R83): a specifier operand or a branch displacement; `isList` marks the
displacement list of the CASEx rows. -/
structure OperandDecl where
  name   : String
  access : Access
  dtype  : DType
  isList : Bool := false
  deriving DecidableEq, Repr

/-- An implied operand (R92): a location "accessed by the instruction, but not specified in an operand". -/
inductive Implied where
  | pushSpLong | popSpLong | pushSpMany | popSpMany | pushKspMany | pushYspMany
  | pcbRead | pcbWrite | fieldRead | fieldWrite | fieldModify | unspecified
  deriving DecidableEq, Repr

/-- The number of a general register: the low four bits of a specifier byte (R84, R86). -/
abbrev Reg := BitVec 4

/-- An immediate constant, as long as the operand's data type (R86: 1, 2, 4 or 8 bytes). -/
inductive Imm where
  | byte (x : BitVec 8)
  | word (x : BitVec 16)
  | long (x : BitVec 32)
  | quad (x : BitVec 64)
  deriving DecidableEq, Repr

/-- An operand specifier without an index prefix (R85 rows 1 to 10, R86). -/
inductive BaseMode where
  /-- Row 1, short literal `#n`: the constant 0 to 63 in the low six bits. -/
  | literal (n : BitVec 6)
  /-- Row 2, register `Rn`. -/
  | register (rn : Reg)
  /-- Row 3, register deferred `(Rn)`. -/
  | registerDef (rn : Reg)
  /-- Row 4, autodecrement `-(Rn)`. -/
  | autodec (rn : Reg)
  /-- Row 5, autoincrement `(Rn)+`, register not 15. -/
  | autoinc (rn : Reg)
  /-- Row 6, immediate `i^#n`: autoincrement on register 15. -/
  | immediate (x : Imm)
  /-- Row 7, autoincrement deferred `@(Rn)+`, register not 15. -/
  | autoincDef (rn : Reg)
  /-- Row 8, absolute `@#a`: autoincrement deferred on register 15. -/
  | absolute (addr : BitVec 32)
  /-- Row 9, displacement or relative `d(Rn)`, byte displacement. -/
  | disp8 (rn : Reg) (d : BitVec 8)
  /-- Row 9, word displacement. -/
  | disp16 (rn : Reg) (d : BitVec 16)
  /-- Row 9, longword displacement. -/
  | disp32 (rn : Reg) (d : BitVec 32)
  /-- Row 10, displacement deferred `@d(Rn)`, byte displacement. -/
  | dispDef8 (rn : Reg) (d : BitVec 8)
  /-- Row 10, word displacement. -/
  | dispDef16 (rn : Reg) (d : BitVec 16)
  /-- Row 10, longword displacement. -/
  | dispDef32 (rn : Reg) (d : BitVec 32)
  deriving DecidableEq, Repr

/-- An operand specifier (R85): rows 1 to 10, or indexed by `[Rx]`, rows 11 to 20. Rows 11, 12 and 16 (an
indexed short literal, register or immediate) have no printed syntax and are not said to be illegal, and R87
says that the cost model accepts any mode for any operand, so they are terms too. -/
inductive Specifier where
  | plain (base : BaseMode)
  | indexed (rx : Reg) (base : BaseMode)
  deriving DecidableEq, Repr

/-- The ten addressing modes of R85, in the order of its rows 1 to 10; rows 11 to 20 are the same ten indexed. -/
inductive AddrKind where
  | shortLiteral | register | registerDef | autodecrement | autoincrement
  | immediate | autoincDef | absolute | displacement | displacementDef
  deriving DecidableEq, Repr

/-- One of the twenty addressing-mode rows of R85: one of ten modes, not indexed or indexed. -/
structure AddrRow where
  kind    : AddrKind
  indexed : Bool
  deriving DecidableEq, Repr

/-- The access columns of the I Box tables (R87, R88): address and field operands share one. -/
inductive SpecColumn where
  | r | av | m | w
  deriving DecidableEq, Repr

/-- The two length classes of the I Box tables (R65, R88): byte, word and long; quad. -/
inductive LenClass where
  | bwl | q
  deriving DecidableEq, Repr

/-- One operand of an instruction as it stands in the instruction stream (R83, R91). -/
inductive Operand where
  | spec (sp : Specifier)
  | displ8 (d : BitVec 8)
  | displ16 (d : BitVec 16)
  | displList (ds : List (BitVec 16))
  deriving DecidableEq, Repr

/-- An opcode (R81, R82): one byte, or the byte `FD` and a second byte. -/
inductive Opcode where
  | one (b0 : Byte)
  | fd (b1 : Byte)
  deriving DecidableEq, Repr

/-- The 263 instructions, one constructor for each row of the opcode table, in the table's order (R98). An event of the
model is `Instr(m, f)` with `m` a row (R6, R703): no cost rule reads an operand, so the operands of an instance stand
beside its row in `CodedInstr`. The line after each rule number is the spec's operation summary: background that no
cost rule reads (R5 (a), GK8). -/
inductive Instr where
  /-- R204, `ADAWI`, opcode 58: add.rw, sum.mw. Background: sum <- sum + add on 16 bits; with sum in memory the read-modify-write is interlocked and sum must be word-aligned. -/
  | adawi
  /-- R205, `ADDB2`, opcode 80: add.rb, sum.mb. Background: sum <- sum + add, modulo 2^8. -/
  | addb2
  /-- R206, `ADDL2`, opcode C0: add.rl, sum.ml. Background: sum <- sum + add, modulo 2^32. -/
  | addl2
  /-- R207, `ADDW2`, opcode A0: add.rw, sum.mw. Background: sum <- sum + add, modulo 2^16. -/
  | addw2
  /-- R208, `ADDB3`, opcode 81: add1.rb, add2.rb, sum.wb. Background: sum <- add1 + add2, modulo 2^8. -/
  | addb3
  /-- R209, `ADDL3`, opcode C1: add1.rl, add2.rl, sum.wl. Background: sum <- add1 + add2, modulo 2^32. -/
  | addl3
  /-- R210, `ADDW3`, opcode A1: add1.rw, add2.rw, sum.ww. Background: sum <- add1 + add2, modulo 2^16. -/
  | addw3
  /-- R211, `ADWC`, opcode D8: add.rl, sum.ml. Background: sum <- sum + add + C, modulo 2^32, C the carry condition code. -/
  | adwc
  /-- R212, `ASHL`, opcode 78: cnt.rb, src.rl, dst.wl. Background: dst <- src shifted arithmetically, left by cnt when cnt >= 0, right by -cnt when cnt < 0; cnt is a signed byte. -/
  | ashl
  /-- R213, `ASHQ`, opcode 79: cnt.rb, src.rq, dst.wq. Background: dst <- src shifted arithmetically as ASHL, on 64 bits. -/
  | ashq
  /-- R214, `BICB2`, opcode 8A: mask.rb, dst.mb. Background: dst <- dst AND NOT mask, 8 bits. -/
  | bicb2
  /-- R215, `BICL2`, opcode CA: mask.rl, dst.ml. Background: dst <- dst AND NOT mask, 32 bits. -/
  | bicl2
  /-- R216, `BICW2`, opcode AA: mask.rw, dst.mw. Background: dst <- dst AND NOT mask, 16 bits. -/
  | bicw2
  /-- R217, `BICB3`, opcode 8B: mask.rb, src.rb, dst.wb. Background: dst <- src AND NOT mask, 8 bits. -/
  | bicb3
  /-- R218, `BICL3`, opcode CB: mask.rl, src.rl, dst.wl. Background: dst <- src AND NOT mask, 32 bits. -/
  | bicl3
  /-- R219, `BICW3`, opcode AB: mask.rw, src.rw, dst.ww. Background: dst <- src AND NOT mask, 16 bits. -/
  | bicw3
  /-- R220, `BISB2`, opcode 88: mask.rb, dst.mb. Background: dst <- dst OR mask, 8 bits. -/
  | bisb2
  /-- R221, `BISL2`, opcode C8: mask.rl, dst.ml. Background: dst <- dst OR mask, 32 bits. -/
  | bisl2
  /-- R222, `BISW2`, opcode A8: mask.rw, dst.mw. Background: dst <- dst OR mask, 16 bits. -/
  | bisw2
  /-- R223, `BISB3`, opcode 89: mask.rb, src.rb, dst.wb. Background: dst <- src OR mask, 8 bits. -/
  | bisb3
  /-- R224, `BISL3`, opcode C9: mask.rl, src.rl, dst.wl. Background: dst <- src OR mask, 32 bits. -/
  | bisl3
  /-- R225, `BISW3`, opcode A9: mask.rw, src.rw, dst.ww. Background: dst <- src OR mask, 16 bits. -/
  | bisw3
  /-- R226, `BITB`, opcode 93: mask.rb, src.rb. Background: forms src AND mask on 8 bits and sets condition codes from it; writes no operand. -/
  | bitb
  /-- R227, `BITL`, opcode D3: mask.rl, src.rl. Background: forms src AND mask on 32 bits and sets condition codes from it; writes no operand. -/
  | bitl
  /-- R228, `BITW`, opcode B3: mask.rw, src.rw. Background: forms src AND mask on 16 bits and sets condition codes from it; writes no operand. -/
  | bitw
  /-- R229, `CLRB`, opcode 94: dst.wb. Background: dst <- 0, 8 bits. -/
  | clrb
  /-- R230, `CLRL`, opcode D4: dst.wl. Background: dst <- 0, 32 bits. -/
  | clrl
  /-- R231, `CLRQ`, opcode 7C: dst.wq. Background: dst <- 0, 64 bits. -/
  | clrq
  /-- R232, `CLRW`, opcode B4: dst.ww. Background: dst <- 0, 16 bits. -/
  | clrw
  /-- R233, `CMPB`, opcode 91: src1.rb, src2.rb. Background: compares src1 with src2 on 8 bits, signed and unsigned, and sets condition codes; writes no operand. -/
  | cmpb
  /-- R234, `CMPL`, opcode D1: src1.rl, src2.rl. Background: compares src1 with src2 on 32 bits, signed and unsigned, and sets condition codes; writes no operand. -/
  | cmpl
  /-- R235, `CMPW`, opcode B1: src1.rw, src2.rw. Background: compares src1 with src2 on 16 bits, signed and unsigned, and sets condition codes; writes no operand. -/
  | cmpw
  /-- R236, `CVTBL`, opcode 98: src.rb, dst.wl. Background: dst <- sext_32(src). -/
  | cvtbl
  /-- R237, `CVTBW`, opcode 99: src.rb, dst.ww. Background: dst <- sext_16(src). -/
  | cvtbw
  /-- R238, `CVTLB`, opcode F6: src.rl, dst.wb. Background: dst <- src[7:0]; integer overflow is signalled when src does not fit in a signed byte. -/
  | cvtlb
  /-- R239, `CVTLW`, opcode F7: src.rl, dst.ww. Background: dst <- src[15:0]; integer overflow is signalled when src does not fit in a signed word. -/
  | cvtlw
  /-- R240, `CVTWB`, opcode 33: src.rw, dst.wb. Background: dst <- src[7:0]; integer overflow is signalled when src does not fit in a signed byte. -/
  | cvtwb
  /-- R241, `CVTWL`, opcode 32: src.rw, dst.wl. Background: dst <- sext_32(src). -/
  | cvtwl
  /-- R242, `DECB`, opcode 97: dif.mb. Background: dif <- dif - 1, modulo 2^8. -/
  | decb
  /-- R243, `DECL`, opcode D7: dif.ml. Background: dif <- dif - 1, modulo 2^32. -/
  | decl
  /-- R244, `DECW`, opcode B7: dif.mw. Background: dif <- dif - 1, modulo 2^16. -/
  | decw
  /-- R245, `DIVB2`, opcode 86: divr.rb, quo.mb. Background: quo <- quo / divr, signed, 8 bits, truncated toward zero. -/
  | divb2
  /-- R246, `DIVL2`, opcode C6: divr.rl, quo.ml. Background: quo <- quo / divr, signed, 32 bits, truncated toward zero. -/
  | divl2
  /-- R247, `DIVW2`, opcode A6: divr.rw, quo.mw. Background: quo <- quo / divr, signed, 16 bits, truncated toward zero. -/
  | divw2
  /-- R248, `DIVB3`, opcode 87: divr.rb, divd.rb, quo.wb. Background: quo <- divd / divr, signed, 8 bits, truncated toward zero. -/
  | divb3
  /-- R249, `DIVL3`, opcode C7: divr.rl, divd.rl, quo.wl. Background: quo <- divd / divr, signed, 32 bits, truncated toward zero. -/
  | divl3
  /-- R250, `DIVW3`, opcode A7: divr.rw, divd.rw, quo.ww. Background: quo <- divd / divr, signed, 16 bits, truncated toward zero. -/
  | divw3
  /-- R251, `EDIV`, opcode 7B: divr.rl, divd.rq, quo.wl, rem.wl. Background: quo <- divd / divr and rem <- divd rem divr, with a 64-bit signed dividend and 32-bit signed divisor, quotient and remainder. -/
  | ediv
  /-- R252, `EMUL`, opcode 7A: mulr.rl, muld.rl, add.rl, prod.wq. Background: prod <- mulr * muld + sext_64(add), a 64-bit signed result. -/
  | emul
  /-- R253, `INCB`, opcode 96: sum.mb. Background: sum <- sum + 1, modulo 2^8. -/
  | incb
  /-- R254, `INCL`, opcode D6: sum.ml. Background: sum <- sum + 1, modulo 2^32. -/
  | incl
  /-- R255, `INCW`, opcode B6: sum.mw. Background: sum <- sum + 1, modulo 2^16. -/
  | incw
  /-- R256, `MCOMB`, opcode 92: src.rb, dst.wb. Background: dst <- NOT src, 8 bits. -/
  | mcomb
  /-- R257, `MCOML`, opcode D2: src.rl, dst.wl. Background: dst <- NOT src, 32 bits. -/
  | mcoml
  /-- R258, `MCOMW`, opcode B2: src.rw, dst.ww. Background: dst <- NOT src, 16 bits. -/
  | mcomw
  /-- R259, `MNEGB`, opcode 8E: src.rb, dst.wb. Background: dst <- 0 - src, modulo 2^8. -/
  | mnegb
  /-- R260, `MNEGL`, opcode CE: src.rl, dst.wl. Background: dst <- 0 - src, modulo 2^32. -/
  | mnegl
  /-- R261, `MNEGW`, opcode AE: src.rw, dst.ww. Background: dst <- 0 - src, modulo 2^16. -/
  | mnegw
  /-- R262, `MOVB`, opcode 90: src.rb, dst.wb. Background: dst <- src, 8 bits. -/
  | movb
  /-- R263, `MOVL`, opcode D0: src.rl, dst.wl. Background: dst <- src, 32 bits. -/
  | movl
  /-- R264, `MOVQ`, opcode 7D: src.rq, dst.wq. Background: dst <- src, 64 bits. -/
  | movq
  /-- R265, `MOVW`, opcode B0: src.rw, dst.ww. Background: dst <- src, 16 bits. -/
  | movw
  /-- R266, `MOVZBW`, opcode 9A: src.rb, dst.ww. Background: dst <- zext_16(src). -/
  | movzbw
  /-- R267, `MOVZBL`, opcode 9B: src.rb, dst.wl. Background: dst <- zext_32(src). -/
  | movzbl
  /-- R268, `MOVZWL`, opcode 3C: src.rw, dst.wl. Background: dst <- zext_32(src). -/
  | movzwl
  /-- R269, `MULB2`, opcode 84: mulr.rb, prod.mb. Background: prod <- prod * mulr, low 8 bits kept, signed. -/
  | mulb2
  /-- R270, `MULL2`, opcode C4: mulr.rl, prod.ml. Background: prod <- prod * mulr, low 32 bits kept, signed. -/
  | mull2
  /-- R271, `MULW2`, opcode A4: mulr.rw, prod.mw. Background: prod <- prod * mulr, low 16 bits kept, signed. -/
  | mulw2
  /-- R272, `MULB3`, opcode 85: mulr.rb, muld.rb, prod.wb. Background: prod <- muld * mulr, low 8 bits kept, signed. -/
  | mulb3
  /-- R273, `MULL3`, opcode C5: mulr.rl, muld.rl, prod.wl. Background: prod <- muld * mulr, low 32 bits kept, signed. -/
  | mull3
  /-- R274, `MULW3`, opcode A5: mulr.rw, muld.rw, prod.ww. Background: prod <- muld * mulr, low 16 bits kept, signed. -/
  | mulw3
  /-- R275, `PUSHL`, opcode DD: src.rl, (-(SP).wl). Background: SP <- SP - 4; MemWrite(SP, 4, src). -/
  | pushl
  /-- R276, `ROTL`, opcode 9C: cnt.rb, src.rl, dst.wl. Background: dst <- src rotated left by cnt bits when cnt >= 0, right by -cnt when cnt < 0. -/
  | rotl
  /-- R277, `SBWC`, opcode D9: sub.rl, dif.ml. Background: dif <- dif - sub - C, modulo 2^32, C the carry condition code. -/
  | sbwc
  /-- R278, `SUBB2`, opcode 82: sub.rb, dif.mb. Background: dif <- dif - sub, modulo 2^8. -/
  | subb2
  /-- R279, `SUBL2`, opcode C2: sub.rl, dif.ml. Background: dif <- dif - sub, modulo 2^32. -/
  | subl2
  /-- R280, `SUBW2`, opcode A2: sub.rw, dif.mw. Background: dif <- dif - sub, modulo 2^16. -/
  | subw2
  /-- R281, `SUBB3`, opcode 83: sub.rb, min.rb, dif.wb. Background: dif <- min - sub, modulo 2^8. -/
  | subb3
  /-- R282, `SUBL3`, opcode C3: sub.rl, min.rl, dif.wl. Background: dif <- min - sub, modulo 2^32. -/
  | subl3
  /-- R283, `SUBW3`, opcode A3: sub.rw, min.rw, dif.ww. Background: dif <- min - sub, modulo 2^16. -/
  | subw3
  /-- R284, `TSTB`, opcode 95: src.rb. Background: compares src with 0 on 8 bits and sets condition codes; writes no operand. -/
  | tstb
  /-- R285, `TSTL`, opcode D5: src.rl. Background: compares src with 0 on 32 bits and sets condition codes; writes no operand. -/
  | tstl
  /-- R286, `TSTW`, opcode B5: src.rw. Background: compares src with 0 on 16 bits and sets condition codes; writes no operand. -/
  | tstw
  /-- R287, `XORB2`, opcode 8C: mask.rb, dst.mb. Background: dst <- dst XOR mask, 8 bits. -/
  | xorb2
  /-- R288, `XORL2`, opcode CC: mask.rl, dst.ml. Background: dst <- dst XOR mask, 32 bits. -/
  | xorl2
  /-- R289, `XORW2`, opcode AC: mask.rw, dst.mw. Background: dst <- dst XOR mask, 16 bits. -/
  | xorw2
  /-- R290, `XORB3`, opcode 8D: mask.rb, src.rb, dst.wb. Background: dst <- src XOR mask, 8 bits. -/
  | xorb3
  /-- R291, `XORL3`, opcode CD: mask.rl, src.rl, dst.wl. Background: dst <- src XOR mask, 32 bits. -/
  | xorl3
  /-- R292, `XORW3`, opcode AD: mask.rw, src.rw, dst.ww. Background: dst <- src XOR mask, 16 bits. -/
  | xorw3
  /-- R303, `MOVAB`, opcode 9E: src.ab, dst.wl. Background: dst <- the 32-bit address of the operand src; src itself is not read. -/
  | movab
  /-- R304, `MOVAL`, opcode DE: src.al, dst.wl. Background: dst <- the 32-bit address of the operand src; src itself is not read. -/
  | moval
  /-- R305, `MOVAQ`, opcode 7E: src.aq, dst.wl. Background: dst <- the 32-bit address of the operand src; src itself is not read. -/
  | movaq
  /-- R306, `MOVAW`, opcode 3E: src.aw, dst.wl. Background: dst <- the 32-bit address of the operand src; src itself is not read. -/
  | movaw
  /-- R307, `PUSHAB`, opcode 9F: src.ab, (-(SP).wl). Background: SP <- SP - 4; MemWrite(SP, 4, address of src). -/
  | pushab
  /-- R308, `PUSHAL`, opcode DF: src.al, (-(SP).wl). Background: SP <- SP - 4; MemWrite(SP, 4, address of src). -/
  | pushal
  /-- R309, `PUSHAQ`, opcode 7F: src.aq, (-(SP).wl). Background: SP <- SP - 4; MemWrite(SP, 4, address of src). -/
  | pushaq
  /-- R310, `PUSHAW`, opcode 3F: src.aw, (-(SP).wl). Background: SP <- SP - 4; MemWrite(SP, 4, address of src). -/
  | pushaw
  /-- R311, `CMPV`, opcode EC: pos.rl, size.rb, base.vb, (field.rv), src.rl. Background: compares the sign-extended field of size bits at bit offset pos from base with src and sets condition codes. -/
  | cmpv
  /-- R312, `CMPZV`, opcode ED: pos.rl, size.rb, base.vb, (field.rv), src.rl. Background: compares the zero-extended field with src and sets condition codes. -/
  | cmpzv
  /-- R313, `EXTV`, opcode EE: pos.rl, size.rb, base.vb, (field.rv), dst.wl. Background: dst <- sext_32(field of size bits at bit offset pos from base). -/
  | extv
  /-- R314, `EXTZV`, opcode EF: pos.rl, size.rb, base.vb, (field.rv), dst.wl. Background: dst <- zext_32(field of size bits at bit offset pos from base). -/
  | extzv
  /-- R315, `INSV`, opcode F0: src.rl, pos.rl, size.rb, base.vb, (field.wv). Background: field of size bits at bit offset pos from base <- src[size-1:0]. -/
  | insv
  /-- R316, `FFC`, opcode EB: startpos.rl, size.rb, base.vb, (field.rv), findpos.wl. Background: findpos <- bit position of the first clear bit of the field, searching upward from startpos; startpos + size when there is none. -/
  | ffc
  /-- R317, `FFS`, opcode EA: startpos.rl, size.rb, base.vb, (field.rv), findpos.wl. Background: findpos <- bit position of the first set bit of the field, searching upward from startpos; startpos + size when there is none. -/
  | ffs
  /-- R324, `ACBB`, opcode 9D: limit.rb, add.rb, index.mb, displ.bw. Background: index <- index + add (8 bits); branch when (add >= 0 and index <= limit) or (add < 0 and index >= limit). -/
  | acbb
  /-- R325, `ACBL`, opcode F1: limit.rl, add.rl, index.ml, displ.bw. Background: index <- index + add (32 bits); branch when (add >= 0 and index <= limit) or (add < 0 and index >= limit). -/
  | acbl
  /-- R326, `ACBW`, opcode 3D: limit.rw, add.rw, index.mw, displ.bw. Background: index <- index + add (16 bits); branch when (add >= 0 and index <= limit) or (add < 0 and index >= limit). -/
  | acbw
  /-- R327, `AOBLEQ`, opcode F3: limit.rl, index.ml, displ.bb. Background: index <- index + 1; branch when index <= limit, signed. -/
  | aobleq
  /-- R328, `AOBLSS`, opcode F2: limit.rl, index.ml, displ.bb. Background: index <- index + 1; branch when index < limit, signed. -/
  | aoblss
  /-- R329, `BCC`, opcode 1E: displ.bb. Background: branch when condition code C = 0. -/
  | bcc
  /-- R330, `BCS`, opcode 1F: displ.bb. Background: branch when condition code C = 1. -/
  | bcs
  /-- R331, `BEQL`, opcode 13: displ.bb. Background: branch when condition code Z = 1. -/
  | beql
  /-- R332, `BGEQ`, opcode 18: displ.bb. Background: branch when condition code N = 0. -/
  | bgeq
  /-- R333, `BGTR`, opcode 14: displ.bb. Background: branch when condition code N = 0 and Z = 0. -/
  | bgtr
  /-- R334, `BGTRU`, opcode 1A: displ.bb. Background: branch when condition code C = 0 and Z = 0. -/
  | bgtru
  /-- R335, `BLEQ`, opcode 15: displ.bb. Background: branch when condition code N = 1 or Z = 1. -/
  | bleq
  /-- R336, `BLEQU`, opcode 1B: displ.bb. Background: branch when condition code C = 1 or Z = 1. -/
  | blequ
  /-- R337, `BLSS`, opcode 19: displ.bb. Background: branch when condition code N = 1. -/
  | blss
  /-- R338, `BNEQ`, opcode 12: displ.bb. Background: branch when condition code Z = 0. -/
  | bneq
  /-- R339, `BVC`, opcode 1C: displ.bb. Background: branch when condition code V = 0. -/
  | bvc
  /-- R340, `BVS`, opcode 1D: displ.bb. Background: branch when condition code V = 1. -/
  | bvs
  /-- R341, `BBC`, opcode E1: pos.rl, base.vb, displ.bb, (field.rv). Background: branch when the single bit at offset pos from base is 0. -/
  | bbc
  /-- R342, `BBS`, opcode E0: pos.rl, base.vb, displ.bb, (field.rv). Background: branch when the single bit at offset pos from base is 1. -/
  | bbs
  /-- R343, `BBCC`, opcode E5: pos.rl, base.vb, displ.bb, (field.mv). Background: branch when the bit is 0; the bit is then cleared. -/
  | bbcc
  /-- R344, `BBCS`, opcode E3: pos.rl, base.vb, displ.bb, (field.mv). Background: branch when the bit is 0; the bit is then set. -/
  | bbcs
  /-- R345, `BBSC`, opcode E4: pos.rl, base.vb, displ.bb, (field.mv). Background: branch when the bit is 1; the bit is then cleared. -/
  | bbsc
  /-- R346, `BBSS`, opcode E2: pos.rl, base.vb, displ.bb, (field.mv). Background: branch when the bit is 1; the bit is then set. -/
  | bbss
  /-- R347, `BBCCI`, opcode E7: pos.rl, base.vb, displ.bb, (field.mv). Background: as BBCC, with the read-modify-write of the bit interlocked. -/
  | bbcci
  /-- R348, `BBSSI`, opcode E6: pos.rl, base.vb, displ.bb, (field.mv). Background: as BBSS, with the read-modify-write of the bit interlocked. -/
  | bbssi
  /-- R349, `BLBC`, opcode E9: src.rl, displ.bb. Background: branch when src[0] = 0. -/
  | blbc
  /-- R350, `BLBS`, opcode E8: src.rl, displ.bb. Background: branch when src[0] = 1. -/
  | blbs
  /-- R351, `BRB`, opcode 11: displ.bb. Background: pc <- pc + sext_32(displ), displ a byte. -/
  | brb
  /-- R352, `BRW`, opcode 31: displ.bw. Background: pc <- pc + sext_32(displ), displ a word. -/
  | brw
  /-- R353, `BSBB`, opcode 10: displ.bb, (-(SP).wl). Background: push pc of the next instruction; pc <- pc + sext_32(displ), displ a byte. -/
  | bsbb
  /-- R354, `BSBW`, opcode 30: displ.bw, (-(SP).wl). Background: push pc of the next instruction; pc <- pc + sext_32(displ), displ a word. -/
  | bsbw
  /-- R355, `CASEB`, opcode 8F: selector.rb, base.rb, limit.rb, displ.bw-list. Background: tmp <- selector - base; when tmp <= limit unsigned, pc <- (address of displ[0]) + sext_32(displ[tmp]); otherwise pc <- address after the list of limit+1 words. -/
  | caseb
  /-- R356, `CASEL`, opcode CF: selector.rl, base.rl, limit.rl, displ.bw-list. Background: tmp <- selector - base; when tmp <= limit unsigned, pc <- (address of displ[0]) + sext_32(displ[tmp]); otherwise pc <- address after the list of limit+1 words. -/
  | casel
  /-- R357, `CASEW`, opcode AF: selector.rw, base.rw, limit.rw, displ.bw-list. Background: tmp <- selector - base; when tmp <= limit unsigned, pc <- (address of displ[0]) + sext_32(displ[tmp]); otherwise pc <- address after the list of limit+1 words. -/
  | casew
  /-- R358, `JMP`, opcode 17: dst.ab. Background: pc <- address of dst. -/
  | jmp
  /-- R359, `JSB`, opcode 16: dst.ab, (-(SP).wl). Background: push pc of the next instruction; pc <- address of dst. -/
  | jsb
  /-- R360, `RSB`, opcode 05: ((SP)+.rl). Background: pc <- MemRead(SP, 4); SP <- SP + 4. -/
  | rsb
  /-- R361, `SOBGEQ`, opcode F4: index.ml, displ.bb. Background: index <- index - 1; branch when index >= 0, signed. -/
  | sobgeq
  /-- R362, `SOBGTR`, opcode F5: index.ml, displ.bb. Background: index <- index - 1; branch when index > 0, signed. -/
  | sobgtr
  /-- R373, `CALLG`, opcode FA: arglist.ab, dst.ab, (-(SP).w*). Background: calls the procedure whose entry mask word is at dst, with the argument list at arglist: pushes the registers named by the mask, then a call frame, loads AP, FP and pc. -/
  | callg
  /-- R374, `CALLS`, opcode FB: numarg.rl, dst.ab, (-(SP).w*). Background: as CALLG, with the argument list on the stack: numarg is pushed first and AP points at it. -/
  | calls
  /-- R375, `RET`, opcode 04: ((SP)+.r*). Background: pops the call frame built by CALLG or CALLS, restores the registers named by the saved mask, and for a CALLS frame also removes the argument list. -/
  | ret
  /-- R382, `BICPSW`, opcode B9: mask.rw. Background: PSW <- PSW AND NOT mask. -/
  | bicpsw
  /-- R383, `BISPSW`, opcode B8: mask.rw. Background: PSW <- PSW OR mask. -/
  | bispsw
  /-- R384, `BPT`, opcode 03: (-(KSP).w*). Background: breakpoint: always takes an exception, whose frame is pushed on the kernel stack. -/
  | bpt
  /-- R385, `HALT`, opcode 00: (-(KSP).w*). Background: in kernel mode stops instruction execution; in any other mode takes a privileged-instruction exception. -/
  | halt
  /-- R386, `INDEX`, opcode 0A: subscript.rl, low.rl, high.rl, size.rl, indexin.rl, indexout.wl. Background: indexout <- (indexin + subscript) * size; a subscript-range trap when subscript is outside low..high. -/
  | index
  /-- R387, `MOVPSL`, opcode DC: dst.wl. Background: dst <- PSL. -/
  | movpsl
  /-- R388, `NOP`, opcode 01: no operand. Background: no operation. -/
  | nop
  /-- R389, `POPR`, opcode BA: mask.rw, ((SP)+.r*). Background: pops one longword from the stack into each register named by a set bit of mask, lowest register first. -/
  | popr
  /-- R390, `PUSHR`, opcode BB: mask.rw, (-(SP).w*). Background: pushes each register named by a set bit of mask, highest register first. -/
  | pushr
  /-- R391, `XFC`, opcode FC: (unspecified operands). Background: extended function call: always takes an exception. -/
  | xfc
  /-- R401, `INSQHI`, opcode 5C: entry.ab, header.aq. Background: inserts entry at the head of the self-relative queue whose header is at header, interlocked. -/
  | insqhi
  /-- R402, `INSQTI`, opcode 5D: entry.ab, header.aq. Background: inserts entry at the tail of the self-relative queue whose header is at header, interlocked. -/
  | insqti
  /-- R403, `INSQUE`, opcode 0E: entry.ab, pred.ab. Background: inserts entry after pred in a doubly linked queue of absolute addresses. -/
  | insque
  /-- R404, `REMQHI`, opcode 5E: header.aq, addr.wl. Background: removes the entry at the head of the self-relative queue, interlocked; addr <- its address. -/
  | remqhi
  /-- R405, `REMQTI`, opcode 5F: header.aq, addr.wl. Background: removes the entry at the tail of the self-relative queue, interlocked; addr <- its address. -/
  | remqti
  /-- R406, `REMQUE`, opcode 0F: entry.ab, addr.wl. Background: removes entry from a doubly linked queue of absolute addresses; addr <- its address. -/
  | remque
  /-- R413, `CMPC3`, opcode 29: len.rw, src1addr.ab, src2addr.ab. Background: compares two byte strings of len bytes, stopping at the first difference; leaves counts and addresses in R0 to R3. -/
  | cmpc3
  /-- R414, `CMPC5`, opcode 2D: src1len.rw, src1addr.ab, fill.rb, src2len.rw, src2addr.ab. Background: compares two byte strings of different lengths, the shorter extended with the fill byte. -/
  | cmpc5
  /-- R415, `LOCC`, opcode 3A: char.rb, len.rw, addr.ab. Background: finds the first byte equal to char in the string of len bytes at addr. -/
  | locc
  /-- R416, `MOVC3`, opcode 28: len.rw, srcaddr.ab, dstaddr.ab. Background: copies len bytes from srcaddr to dstaddr, correct for overlapping strings; leaves addresses in R0 to R5. -/
  | movc3
  /-- R417, `MOVC5`, opcode 2C: srclen.rw, srcaddr.ab, fill.rb, dstlen.rw, dstaddr.ab. Background: copies srclen bytes to a destination of dstlen bytes, filling the rest with the fill byte or truncating. -/
  | movc5
  /-- R418, `SCANC`, opcode 2A: len.rw, addr.ab, tbladdr.ab, mask.rb. Background: finds the first byte of the string whose table entry ANDed with mask is non-zero. -/
  | scanc
  /-- R419, `SKPC`, opcode 3B: char.rb, len.rw, addr.ab. Background: finds the first byte not equal to char in the string of len bytes at addr. -/
  | skpc
  /-- R420, `SPANC`, opcode 2B: len.rw, addr.ab, tbladdr.ab, mask.rb. Background: finds the first byte of the string whose table entry ANDed with mask is zero. -/
  | spanc
  /-- R432, `CHME`, opcode BD: param.rw, (-(ySP).w*). Background: change mode to executive: takes an exception whose frame (sext_32(param), pc, PSL) is pushed on the stack of mode y. -/
  | chme
  /-- R433, `CHMK`, opcode BC: param.rw, (-(ySP).w*). Background: change mode to kernel: takes an exception whose frame (sext_32(param), pc, PSL) is pushed on the stack of mode y. -/
  | chmk
  /-- R434, `CHMS`, opcode BE: param.rw, (-(ySP).w*). Background: change mode to supervisor: takes an exception whose frame (sext_32(param), pc, PSL) is pushed on the stack of mode y. -/
  | chms
  /-- R435, `CHMU`, opcode BF: param.rw, (-(ySP).w*). Background: change mode to user: takes an exception whose frame (sext_32(param), pc, PSL) is pushed on the stack of mode y. -/
  | chmu
  /-- R436, `LDPCTX`, opcode 06: (PCB.r*), (-(KSP).w*). Background: loads the process context (general registers, per-mode stack pointers, memory-management base and length registers) from the PCB and pushes pc and PSL on the kernel stack. -/
  | ldpctx
  /-- R437, `MFPR`, opcode DB: procreg.rl, dst.wl. Background: dst <- the processor register numbered procreg. -/
  | mfpr
  /-- R438, `MTPR`, opcode DA: src.rl, procreg.rl. Background: the processor register numbered procreg <- src. -/
  | mtpr
  /-- R439, `PROBER`, opcode 0C: mode.rb, len.rw, base.ab. Background: tests whether the first and last byte of the len bytes at base can be read in the less privileged of mode and the previous mode; sets Z. -/
  | prober
  /-- R440, `PROBEW`, opcode 0D: mode.rb, len.rw, base.ab. Background: tests whether the first and last byte of the len bytes at base can be written in the less privileged of mode and the previous mode; sets Z. -/
  | probew
  /-- R441, `REI`, opcode 02: ((SP)+.r*). Background: pops pc and PSL from the stack, checks the new PSL, and resumes there. -/
  | rei
  /-- R442, `SVPCTX`, opcode 07: ((SP)+.r*), (PCB.w*). Background: pops pc and PSL from the stack and saves them, the general registers and the per-mode stack pointers in the PCB. -/
  | svpctx
  /-- R453, `ADDD2`, opcode 60: add.rd, sum.md. Background: sum <- sum + add in d_floating. -/
  | addd2
  /-- R454, `ADDF2`, opcode 40: add.rf, sum.mf. Background: sum <- sum + add in f_floating. -/
  | addf2
  /-- R455, `ADDG2`, opcode 40FD: add.rg, sum.mg. Background: sum <- sum + add in g_floating. -/
  | addg2
  /-- R456, `ADDD3`, opcode 61: add1.rd, add2.rd, sum.wd. Background: sum <- add1 + add2 in d_floating. -/
  | addd3
  /-- R457, `ADDF3`, opcode 41: add1.rf, add2.rf, sum.wf. Background: sum <- add1 + add2 in f_floating. -/
  | addf3
  /-- R458, `ADDG3`, opcode 41FD: add1.rg, add2.rg, sum.wg. Background: sum <- add1 + add2 in g_floating. -/
  | addg3
  /-- R459, `CMPD`, opcode 71: src1.rd, src2.rd. Background: compares src1 with src2 as d_floating and sets condition codes. -/
  | cmpd
  /-- R460, `CMPF`, opcode 51: src1.rf, src2.rf. Background: compares src1 with src2 as f_floating and sets condition codes. -/
  | cmpf
  /-- R461, `CMPG`, opcode 51FD: src1.rg, src2.rg. Background: compares src1 with src2 as g_floating and sets condition codes. -/
  | cmpg
  /-- R462, `CVTBD`, opcode 6C: src.rb, dst.wd. Background: dst <- src converted from byte integer to d_floating, exact. -/
  | cvtbd
  /-- R463, `CVTBF`, opcode 4C: src.rb, dst.wf. Background: dst <- src converted from byte integer to f_floating, exact. -/
  | cvtbf
  /-- R464, `CVTBG`, opcode 4CFD: src.rb, dst.wg. Background: dst <- src converted from byte integer to g_floating, exact. -/
  | cvtbg
  /-- R465, `CVTDB`, opcode 68: src.rd, dst.wb. Background: dst <- src converted from d_floating to byte integer, truncated toward zero. -/
  | cvtdb
  /-- R466, `CVTDF`, opcode 76: src.rd, dst.wf. Background: dst <- src converted from d_floating to f_floating, rounded. -/
  | cvtdf
  /-- R467, `CVTDL`, opcode 6A: src.rd, dst.wl. Background: dst <- src converted from d_floating to longword integer, truncated toward zero. -/
  | cvtdl
  /-- R468, `CVTDW`, opcode 69: src.rd, dst.ww. Background: dst <- src converted from d_floating to word integer, truncated toward zero. -/
  | cvtdw
  /-- R469, `CVTFB`, opcode 48: src.rf, dst.wb. Background: dst <- src converted from f_floating to byte integer, truncated toward zero. -/
  | cvtfb
  /-- R470, `CVTFD`, opcode 56: src.rf, dst.wd. Background: dst <- src converted from f_floating to d_floating, exact. -/
  | cvtfd
  /-- R471, `CVTFG`, opcode 99FD: src.rf, dst.wg. Background: dst <- src converted from f_floating to g_floating, exact. -/
  | cvtfg
  /-- R472, `CVTFL`, opcode 4A: src.rf, dst.wl. Background: dst <- src converted from f_floating to longword integer, truncated toward zero. -/
  | cvtfl
  /-- R473, `CVTFW`, opcode 49: src.rf, dst.ww. Background: dst <- src converted from f_floating to word integer, truncated toward zero. -/
  | cvtfw
  /-- R474, `CVTGB`, opcode 48FD: src.rg, dst.wb. Background: dst <- src converted from g_floating to byte integer, truncated toward zero. -/
  | cvtgb
  /-- R475, `CVTGF`, opcode 33FD: src.rg, dst.wf. Background: dst <- src converted from g_floating to f_floating, rounded. -/
  | cvtgf
  /-- R476, `CVTGL`, opcode 4AFD: src.rg, dst.wl. Background: dst <- src converted from g_floating to longword integer, truncated toward zero. -/
  | cvtgl
  /-- R477, `CVTGW`, opcode 49FD: src.rg, dst.ww. Background: dst <- src converted from g_floating to word integer, truncated toward zero. -/
  | cvtgw
  /-- R478, `CVTLD`, opcode 6E: src.rl, dst.wd. Background: dst <- src converted from longword integer to d_floating, exact. -/
  | cvtld
  /-- R479, `CVTLF`, opcode 4E: src.rl, dst.wf. Background: dst <- src converted from longword integer to f_floating, rounded. -/
  | cvtlf
  /-- R480, `CVTLG`, opcode 4EFD: src.rl, dst.wg. Background: dst <- src converted from longword integer to g_floating, exact. -/
  | cvtlg
  /-- R481, `CVTWD`, opcode 6D: src.rw, dst.wd. Background: dst <- src converted from word integer to d_floating, exact. -/
  | cvtwd
  /-- R482, `CVTWF`, opcode 4D: src.rw, dst.wf. Background: dst <- src converted from word integer to f_floating, exact. -/
  | cvtwf
  /-- R483, `CVTWG`, opcode 4DFD: src.rw, dst.wg. Background: dst <- src converted from word integer to g_floating, exact. -/
  | cvtwg
  /-- R484, `CVTRDL`, opcode 6B: src.rd, dst.wl. Background: dst <- src converted from d_floating to longword integer, rounded. -/
  | cvtrdl
  /-- R485, `CVTRFL`, opcode 4B: src.rf, dst.wl. Background: dst <- src converted from f_floating to longword integer, rounded. -/
  | cvtrfl
  /-- R486, `CVTRGL`, opcode 4BFD: src.rg, dst.wl. Background: dst <- src converted from g_floating to longword integer, rounded. -/
  | cvtrgl
  /-- R487, `DIVD2`, opcode 66: divr.rd, quo.md. Background: quo <- quo / divr in d_floating. -/
  | divd2
  /-- R488, `DIVF2`, opcode 46: divr.rf, quo.mf. Background: quo <- quo / divr in f_floating. -/
  | divf2
  /-- R489, `DIVG2`, opcode 46FD: divr.rg, quo.mg. Background: quo <- quo / divr in g_floating. -/
  | divg2
  /-- R490, `DIVD3`, opcode 67: divr.rd, divd.rd, quo.wd. Background: quo <- divd / divr in d_floating. -/
  | divd3
  /-- R491, `DIVF3`, opcode 47: divr.rf, divd.rf, quo.wf. Background: quo <- divd / divr in f_floating. -/
  | divf3
  /-- R492, `DIVG3`, opcode 47FD: divr.rg, divd.rg, quo.wg. Background: quo <- divd / divr in g_floating. -/
  | divg3
  /-- R493, `MNEGD`, opcode 72: src.rd, dst.wd. Background: dst <- -src in d_floating. -/
  | mnegd
  /-- R494, `MNEGF`, opcode 52: src.rf, dst.wf. Background: dst <- -src in f_floating. -/
  | mnegf
  /-- R495, `MNEGG`, opcode 52FD: src.rg, dst.wg. Background: dst <- -src in g_floating. -/
  | mnegg
  /-- R496, `MOVD`, opcode 70: src.rd, dst.wd. Background: dst <- src, a d_floating value. -/
  | movd
  /-- R497, `MOVF`, opcode 50: src.rf, dst.wf. Background: dst <- src, a f_floating value. -/
  | movf
  /-- R498, `MOVG`, opcode 50FD: src.rg, dst.wg. Background: dst <- src, a g_floating value. -/
  | movg
  /-- R499, `MULD2`, opcode 64: mulr.rd, prod.md. Background: prod <- prod * mulr in d_floating. -/
  | muld2
  /-- R500, `MULF2`, opcode 44: mulr.rf, prod.mf. Background: prod <- prod * mulr in f_floating. -/
  | mulf2
  /-- R501, `MULG2`, opcode 44FD: mulr.rg, prod.mg. Background: prod <- prod * mulr in g_floating. -/
  | mulg2
  /-- R502, `MULD3`, opcode 65: mulr.rd, muld.rd, prod.wd. Background: prod <- muld * mulr in d_floating. -/
  | muld3
  /-- R503, `MULF3`, opcode 45: mulr.rf, muld.rf, prod.wf. Background: prod <- muld * mulr in f_floating. -/
  | mulf3
  /-- R504, `MULG3`, opcode 45FD: mulr.rg, muld.rg, prod.wg. Background: prod <- muld * mulr in g_floating. -/
  | mulg3
  /-- R505, `SUBD2`, opcode 62: sub.rd, dif.md. Background: dif <- dif - sub in d_floating. -/
  | subd2
  /-- R506, `SUBF2`, opcode 42: sub.rf, dif.mf. Background: dif <- dif - sub in f_floating. -/
  | subf2
  /-- R507, `SUBG2`, opcode 42FD: sub.rg, dif.mg. Background: dif <- dif - sub in g_floating. -/
  | subg2
  /-- R508, `SUBD3`, opcode 63: sub.rd, min.rd, dif.wd. Background: dif <- min - sub in d_floating. -/
  | subd3
  /-- R509, `SUBF3`, opcode 43: sub.rf, min.rf, dif.wf. Background: dif <- min - sub in f_floating. -/
  | subf3
  /-- R510, `SUBG3`, opcode 43FD: sub.rg, min.rg, dif.wg. Background: dif <- min - sub in g_floating. -/
  | subg3
  /-- R511, `TSTD`, opcode 73: src.rd. Background: compares src with 0 as d_floating and sets condition codes. -/
  | tstd
  /-- R512, `TSTF`, opcode 53: src.rf. Background: compares src with 0 as f_floating and sets condition codes. -/
  | tstf
  /-- R513, `TSTG`, opcode 53FD: src.rg. Background: compares src with 0 as g_floating and sets condition codes. -/
  | tstg
  /-- R522, `ADDP4`, opcode 20: addlen.rw, addaddr.ab, sumlen.rw, sumaddr.ab. Background: packed decimal: sum <- sum + add. -/
  | addp4
  /-- R523, `ADDP6`, opcode 21: add1len.rw, add1addr.ab, add2len.rw, add2addr.ab, sumlen.rw, sumaddr.ab. Background: packed decimal: sum <- add1 + add2. -/
  | addp6
  /-- R524, `ASHP`, opcode F8: cnt.rb, srclen.rw, srcaddr.ab, round.rb, dstlen.rw, dstaddr.ab. Background: packed decimal: dst <- src scaled by 10^cnt, rounded with round when cnt is negative. -/
  | ashp
  /-- R525, `CMPP3`, opcode 35: len.rw, src1addr.ab, src2addr.ab. Background: packed decimal: compares two strings of the same length. -/
  | cmpp3
  /-- R526, `CMPP4`, opcode 37: src1len.rw, src1addr.ab, src2len.rw, src2addr.ab. Background: packed decimal: compares two strings of different lengths. -/
  | cmpp4
  /-- R527, `CRC`, opcode 0B: tbl.ab, inicrc.rl, strlen.rw, stream.ab. Background: cyclic redundancy check of the byte stream with the 16-longword table tbl and initial value inicrc; result in R0. -/
  | crc
  /-- R528, `CVTLP`, opcode F9: src.rl, dstlen.rw, dstaddr.ab. Background: converts a longword integer to packed decimal. -/
  | cvtlp
  /-- R529, `CVTPL`, opcode 36: srclen.rw, srcaddr.ab, dst.wl. Background: converts packed decimal to a longword integer. -/
  | cvtpl
  /-- R530, `CVTPS`, opcode 08: srclen.rw, srcaddr.ab, dstlen.rw, dstaddr.ab. Background: converts packed decimal to leading separate numeric. -/
  | cvtps
  /-- R531, `CVTSP`, opcode 09: srclen.rw, srcaddr.ab, dstlen.rw, dstaddr.ab. Background: converts leading separate numeric to packed decimal. -/
  | cvtsp
  /-- R532, `CVTPT`, opcode 24: srclen.rw, srcaddr.ab, tbladdr.ab, dstlen.rw, dstaddr.ab. Background: converts packed decimal to trailing numeric using the table at tbladdr. -/
  | cvtpt
  /-- R533, `CVTTP`, opcode 26: srclen.rw, srcaddr.ab, tbladdr.ab, dstlen.rw, dstaddr.ab. Background: converts trailing numeric to packed decimal using the table at tbladdr. -/
  | cvttp
  /-- R534, `DIVP`, opcode 27: divrlen.rw, divraddr.ab, divdlen.rw, divdaddr.ab, quolen.rw, quoaddr.ab. Background: packed decimal: quo <- divd / divr. -/
  | divp
  /-- R535, `EDITPC`, opcode 38: srclen.rw, srcaddr.ab, pattern.ab, dstaddr.ab. Background: edits a packed decimal string into a character string under control of the pattern. -/
  | editpc
  /-- R536, `MATCHC`, opcode 39: objlen.rw, objaddr.ab, srclen.rw, srcaddr.ab. Background: searches the source string for the first occurrence of the object string. -/
  | matchc
  /-- R537, `MOVP`, opcode 34: len.rw, srcaddr.ab, dstaddr.ab. Background: copies a packed decimal string. -/
  | movp
  /-- R538, `MOVTC`, opcode 2E: srclen.rw, srcaddr.ab, fill.rb, tbladdr.ab, dstlen.rw, dstaddr.ab. Background: copies a string translating every byte through the table, filling with fill. -/
  | movtc
  /-- R539, `MOVTUC`, opcode 2F: srclen.rw, srcaddr.ab, esc.rb, tbladdr.ab, dstlen.rw, dstaddr.ab. Background: copies a string translating every byte through the table until the escape byte is produced. -/
  | movtuc
  /-- R540, `MULP`, opcode 25: mulrlen.rw, mulraddr.ab, muldlen.rw, muldaddr.ab, prodlen.rw, prodaddr.ab. Background: packed decimal: prod <- muld * mulr. -/
  | mulp
  /-- R541, `SUBP4`, opcode 22: sublen.rw, subaddr.ab, diflen.rw, difaddr.ab. Background: packed decimal: dif <- dif - sub. -/
  | subp4
  /-- R542, `SUBP6`, opcode 23: sublen.rw, subaddr.ab, minlen.rw, minaddr.ab, diflen.rw, difaddr.ab. Background: packed decimal: dif <- min - sub. -/
  | subp6
  deriving DecidableEq, Repr

/-- The ten families of the instruction rows (files 40 to 49 of the spec). -/
inductive Family where
  | integer | addressField | control | procedure | miscellaneous | queue | characterString | operatingSystem | floating | emulated
  deriving DecidableEq, Repr

/-- An instance of an instruction as it is written in the instruction stream (R80, R83): its row, and its operands in
the order of the row's operand list. -/
structure CodedInstr where
  row      : Instr
  operands : List Operand
  deriving DecidableEq, Repr

/-- How an event names an instruction that has no row (R94): by the text of its mnemonic, or by its opcode. -/
inductive InstrName where
  | text (m : String)
  | opcode (o : Opcode)
  deriving DecidableEq, Repr

/-- Why bytes are no instruction. -/
inductive DecodeError where
  /-- The opcode has no row (R94). -/
  | noRow (o : Opcode)
  /-- The bytes end before the instruction does. -/
  | truncated
  /-- An index prefix stands before an index prefix: R84 puts the specifier byte of a base mode there. -/
  | indexOfIndex
  deriving DecidableEq, Repr

end Sys2Proof
end

