-- ==== Sys2Proof/Config.lean ====
section
/-! DEFINITION. The parameters of the model (R13). The source gives none of them a value: those that a step reads
are plain data of the state (`Params`), those that a definition reads are its arguments (`Delays`, `IboxTimes`),
and the predicate that only the caller evaluates is an opaque constant. -/

namespace Sys2Proof

/-- One entry of the parameter `tbd_cost` (R13, D8): the lower and upper cost supplied for a row whose cell is
`tbd`. -/
structure TbdCost where
  row : Instr
  lo  : Cost
  hi  : Cost
  deriving DecidableEq, Repr

/-- The parameters that a cost rule reads (R13): `HAS_FPA` (D10) and `tbd_cost` (D8), a finite map held as a list in
which a row that is not listed has the value `none`. -/
structure Params where
  hasFpa  : Bool := false
  tbdCost : List TbdCost := []
  deriving DecidableEq, Repr

/-- The five parameters that `eval` reads (R10, R13): cycles of a pipeline restart, a pipeline flush and a branch
mispredict, and cycles charged for a counted read and a counted write. -/
structure Delays where
  rst : Nat
  pfl : Nat
  mpr : Nat
  tR  : Nat
  tW  : Nat
  deriving DecidableEq, Repr

/-- The parameter `ibox_time` (R13, R89, R90): the I Box specifier times by addressing-mode row, access column and
length class, and the instruction-specific times. No cost rule reads it (D11). -/
structure IboxTimes where
  specifier   : AddrRow → SpecColumn → LenClass → Option Nat
  instruction : Instr → Option Nat

/-- As far as the source goes, every I Box time is `none`: all 160 cells are empty (R89) and section 1.2 is a
placeholder (R90). -/
def IboxTimes.asPrinted : IboxTimes where
  specifier _ _ _ := none
  instruction _ := none

/-- The parameter `unaligned` (R13, D13): whether an operand of a length at an address is unaligned. The source does
not define it, so nothing in Lean can prove a value of it. DESIGN CHOICE (log entry 11), safe. -/
opaque Config.unaligned : Nat → Len → Bool

end Sys2Proof
end

