-- ==== Sys2Proof/Machine/State.lean ====
section
/-! DEFINITION. The state of the cost model (R30, R31), the inputs of a run that a step reads (R702), the ways a step can
stop, and the state after reset (R700). -/

namespace Sys2Proof.Machine

open Sys2Proof

/-- The letters of the two RET cells (R375, D18): the frame was built by CALLG or by CALLS. -/
inductive FrameKind where
  | G | S
  deriving DecidableEq, Repr

/-- The dynamic facts of an instruction event (R14): free inputs, which the model does not compute (D23). A fact that is
not listed is false, 0 or the empty list (spec/95 section 2). -/
structure Facts where
  sumInReg        : Bool := false
  vInReg          : Bool := false
  mispredicted    : Bool := false
  n               : Nat := 0
  k               : Nat := 0
  frameKind       : FrameKind := .G
  sizeIsOne       : Bool := false
  unalignedReads  : List Len := []
  unalignedWrites : List Len := []
  deriving DecidableEq, Repr

/-- How an instruction event gives its instruction: by a mnemonic or further name of a row (R702), or by the bytes of the
instruction, which the decoder of R95 reads. DESIGN CHOICE (log entry 10), safe. With the bytes stands what they do not say of their
own length: the value of the limit operand of a CASEx instance (R91) whose limit is no constant (log entry 8). -/
inductive Source where
  | name (m : String)
  | code (bytes : List Byte) (limit : BitVec 32 := 0#32)
  deriving DecidableEq, Repr

/-- An event of the trace (R6, R702). -/
inductive Event where
  /-- `Instr(m, f)`. -/
  | instr (src : Source) (facts : Facts)
  | hwInterrupt
  | swInterrupt
  | exception
  deriving DecidableEq, Repr

/-- One entry of the trace: an event, and the choice inside the interval if its rule contains a draw (R702 (c)). A choice
outside the interval stands for the member nearest to it, and every member can be chosen (log entry 4). -/
structure Entry where
  event : Event
  pick  : Cost := {}
  deriving DecidableEq, Repr

/-- The reasons of a refusal (R705). -/
inductive Reason where
  /-- `no_row m`: the instruction has no row (R94). -/
  | noRow (m : InstrName)
  /-- `tbd m`: the row's cell is `tbd` and `tbd_cost(m)` is `none`. -/
  | tbd (m : Instr)
  deriving DecidableEq, Repr

/-- The state of the model. `acc`, `pos` and `refused` are the state that R30 and R31 give; `params` and `trace` are
inputs of the run (R702), which R32 calls parameters of the step: they stand here because a step has one argument, and no
step writes them (log entry 1). -/
structure State where
  /-- R30: the cost accumulated so far. -/
  acc     : Cost
  /-- R30: the index of the next event of the trace, counted from 0. -/
  pos     : Nat
  /-- R31: set when the model met an event it has no cost for; never cleared by a step. -/
  refused : Option Reason
  /-- R702 (a): the parameters that a cost rule reads. -/
  params  : Params
  /-- R702 (b), (c): the trace, with the choice of each draw. -/
  trace   : List Entry
  deriving DecidableEq, Repr

/-- Why the machine stops with a fault. -/
inductive Fault where
  /-- Raised by every step at the end of the trace: R703 requires `pos < length(trace)` and R704 ends the run there.
  Safe: the run is over. -/
  | traceEnded
  /-- Raised by a row whose supplied `tbd_cost` interval has no member (its ends are not in order): no cost can be drawn
  (R11). Safe: the machine stops (log entry 6). -/
  | emptyDraw (lo hi : Cost)
  deriving DecidableEq, Repr

/-- Why the machine gives no step. -/
inductive Refusal where
  /-- An instruction with no meaning yet; no arm answers with it. -/
  | notModelled (mnemonic : String)
  /-- Raised by every step of a state with `refused` set: R705, "a refused state has no step". Safe: the run is over. -/
  | runRefused (why : Reason)
  /-- Raised by an event whose bytes are no instruction although their opcode may have a row. Safe: the machine stops
  (log entry 7). -/
  | undecodable (why : DecodeError)
  deriving DecidableEq, Repr

/-- R700: `acc = Cost()`, `pos = 0`, `refused = none`. The trace is empty until one is supplied from outside (R701,
R702; log entry 3). The parameters are `HAS_FPA = false` and `tbd_cost = fun _ => none`: DESIGN CHOICE (log entry 2),
unsafe for a claim about a run from this one state. -/
def State.reset : State where
  acc := {}
  pos := 0
  refused := none
  params := {}
  trace := []

end Sys2Proof.Machine
end

