-- ==== Sys2Proof/Machine/Flags.lean ====
section
/-! DEFINITION. The cost model has no flags (R36). Where a conditional branch of a functional machine would read a condition
code, a cost rule reads the dynamic fact `mispredicted` (R321); the other conditions of the table's cells (R711) are facts
and parameters too. -/

namespace Sys2Proof.Machine

open Sys2Proof

/-- R321: `m(f)`, 1 if the instance was mispredicted and 0 otherwise. -/
def Facts.m (f : Facts) : Nat := if f.mispredicted then 1 else 0

/-- The condition of a cost cell (R98, field `when`; R711 (a)). -/
inductive When where
  | always
  | sumInReg (b : Bool)
  | vInReg (b : Bool)
  | sizeIsOne (b : Bool)
  | frameKind (k : FrameKind)
  | hasFpa (b : Bool)
  deriving DecidableEq, Repr

/-- Whether a cell's condition holds. -/
def When.holds (p : Params) (f : Facts) : When → Bool
  | .always => true
  | .sumInReg b => f.sumInReg == b
  | .vInReg b => f.vInReg == b
  | .sizeIsOne b => f.sizeIsOne == b
  | .frameKind k => f.frameKind == k
  | .hasFpa b => p.hasFpa == b

/-- The facts and parameters a rule may read besides the unaligned lists (R14; R98, field `facts`). -/
inductive FactName where
  | sumInReg | vInReg | mispredicted | n | k | frameKind | sizeIsOne | hasFpa
  deriving DecidableEq, Repr

/-- Two events' facts agree on a fact. -/
def FactName.agree (p q : Params) (f g : Facts) : FactName → Prop
  | .sumInReg => f.sumInReg = g.sumInReg
  | .vInReg => f.vInReg = g.vInReg
  | .mispredicted => f.mispredicted = g.mispredicted
  | .n => f.n = g.n
  | .k => f.k = g.k
  | .frameKind => f.frameKind = g.frameKind
  | .sizeIsOne => f.sizeIsOne = g.sizeIsOne
  | .hasFpa => p.hasFpa = q.hasFpa

end Sys2Proof.Machine
end

