-- ==== Sys2Proof/Machine/Notation.lean ====
section
/-! DEFINITION. The opcode table (R98) but for its costs: names, further names (R96), opcodes (R81, R82), operand lists
after the corrections of C1, C2, C3, C5 (R83), implied operands (R92) and families, one row for each mnemonic. -/

namespace Sys2Proof

/-- The family (section file) of a row. -/
def Instr.family : Instr → Family
  | .adawi | .addb2 | .addl2 | .addw2 | .addb3 | .addl3 | .addw3 | .adwc => .integer
  | .ashl | .ashq | .bicb2 | .bicl2 | .bicw2 | .bicb3 | .bicl3 | .bicw3 => .integer
  | .bisb2 | .bisl2 | .bisw2 | .bisb3 | .bisl3 | .bisw3 | .bitb | .bitl => .integer
  | .bitw | .clrb | .clrl | .clrq | .clrw | .cmpb | .cmpl | .cmpw => .integer
  | .cvtbl | .cvtbw | .cvtlb | .cvtlw | .cvtwb | .cvtwl | .decb | .decl => .integer
  | .decw | .divb2 | .divl2 | .divw2 | .divb3 | .divl3 | .divw3 | .ediv => .integer
  | .emul | .incb | .incl | .incw | .mcomb | .mcoml | .mcomw | .mnegb => .integer
  | .mnegl | .mnegw | .movb | .movl | .movq | .movw | .movzbw | .movzbl => .integer
  | .movzwl | .mulb2 | .mull2 | .mulw2 | .mulb3 | .mull3 | .mulw3 | .pushl => .integer
  | .rotl | .sbwc | .subb2 | .subl2 | .subw2 | .subb3 | .subl3 | .subw3 => .integer
  | .tstb | .tstl | .tstw | .xorb2 | .xorl2 | .xorw2 | .xorb3 | .xorl3 => .integer
  | .xorw3 => .integer
  | .movab | .moval | .movaq | .movaw | .pushab | .pushal | .pushaq | .pushaw => .addressField
  | .cmpv | .cmpzv | .extv | .extzv | .insv | .ffc | .ffs => .addressField
  | .acbb | .acbl | .acbw | .aobleq | .aoblss | .bcc | .bcs | .beql => .control
  | .bgeq | .bgtr | .bgtru | .bleq | .blequ | .blss | .bneq | .bvc => .control
  | .bvs | .bbc | .bbs | .bbcc | .bbcs | .bbsc | .bbss | .bbcci => .control
  | .bbssi | .blbc | .blbs | .brb | .brw | .bsbb | .bsbw | .caseb => .control
  | .casel | .casew | .jmp | .jsb | .rsb | .sobgeq | .sobgtr => .control
  | .callg | .calls | .ret => .procedure
  | .bicpsw | .bispsw | .bpt | .halt | .index | .movpsl | .nop | .popr => .miscellaneous
  | .pushr | .xfc => .miscellaneous
  | .insqhi | .insqti | .insque | .remqhi | .remqti | .remque => .queue
  | .cmpc3 | .cmpc5 | .locc | .movc3 | .movc5 | .scanc | .skpc | .spanc => .characterString
  | .chme | .chmk | .chms | .chmu | .ldpctx | .mfpr | .mtpr | .prober => .operatingSystem
  | .probew | .rei | .svpctx => .operatingSystem
  | .addd2 | .addf2 | .addg2 | .addd3 | .addf3 | .addg3 | .cmpd | .cmpf => .floating
  | .cmpg | .cvtbd | .cvtbf | .cvtbg | .cvtdb | .cvtdf | .cvtdl | .cvtdw => .floating
  | .cvtfb | .cvtfd | .cvtfg | .cvtfl | .cvtfw | .cvtgb | .cvtgf | .cvtgl => .floating
  | .cvtgw | .cvtld | .cvtlf | .cvtlg | .cvtwd | .cvtwf | .cvtwg | .cvtrdl => .floating
  | .cvtrfl | .cvtrgl | .divd2 | .divf2 | .divg2 | .divd3 | .divf3 | .divg3 => .floating
  | .mnegd | .mnegf | .mnegg | .movd | .movf | .movg | .muld2 | .mulf2 => .floating
  | .mulg2 | .muld3 | .mulf3 | .mulg3 | .subd2 | .subf2 | .subg2 | .subd3 => .floating
  | .subf3 | .subg3 | .tstd | .tstf | .tstg => .floating
  | .addp4 | .addp6 | .ashp | .cmpp3 | .cmpp4 | .crc | .cvtlp | .cvtpl => .emulated
  | .cvtps | .cvtsp | .cvtpt | .cvttp | .divp | .editpc | .matchc | .movp => .emulated
  | .movtc | .movtuc | .mulp | .subp4 | .subp6 => .emulated

/-- The mnemonic as the table prints it. -/
def Instr.name : Instr → String
  | .adawi => "ADAWI"
  | .addb2 => "ADDB2"
  | .addl2 => "ADDL2"
  | .addw2 => "ADDW2"
  | .addb3 => "ADDB3"
  | .addl3 => "ADDL3"
  | .addw3 => "ADDW3"
  | .adwc => "ADWC"
  | .ashl => "ASHL"
  | .ashq => "ASHQ"
  | .bicb2 => "BICB2"
  | .bicl2 => "BICL2"
  | .bicw2 => "BICW2"
  | .bicb3 => "BICB3"
  | .bicl3 => "BICL3"
  | .bicw3 => "BICW3"
  | .bisb2 => "BISB2"
  | .bisl2 => "BISL2"
  | .bisw2 => "BISW2"
  | .bisb3 => "BISB3"
  | .bisl3 => "BISL3"
  | .bisw3 => "BISW3"
  | .bitb => "BITB"
  | .bitl => "BITL"
  | .bitw => "BITW"
  | .clrb => "CLRB"
  | .clrl => "CLRL"
  | .clrq => "CLRQ"
  | .clrw => "CLRW"
  | .cmpb => "CMPB"
  | .cmpl => "CMPL"
  | .cmpw => "CMPW"
  | .cvtbl => "CVTBL"
  | .cvtbw => "CVTBW"
  | .cvtlb => "CVTLB"
  | .cvtlw => "CVTLW"
  | .cvtwb => "CVTWB"
  | .cvtwl => "CVTWL"
  | .decb => "DECB"
  | .decl => "DECL"
  | .decw => "DECW"
  | .divb2 => "DIVB2"
  | .divl2 => "DIVL2"
  | .divw2 => "DIVW2"
  | .divb3 => "DIVB3"
  | .divl3 => "DIVL3"
  | .divw3 => "DIVW3"
  | .ediv => "EDIV"
  | .emul => "EMUL"
  | .incb => "INCB"
  | .incl => "INCL"
  | .incw => "INCW"
  | .mcomb => "MCOMB"
  | .mcoml => "MCOML"
  | .mcomw => "MCOMW"
  | .mnegb => "MNEGB"
  | .mnegl => "MNEGL"
  | .mnegw => "MNEGW"
  | .movb => "MOVB"
  | .movl => "MOVL"
  | .movq => "MOVQ"
  | .movw => "MOVW"
  | .movzbw => "MOVZBW"
  | .movzbl => "MOVZBL"
  | .movzwl => "MOVZWL"
  | .mulb2 => "MULB2"
  | .mull2 => "MULL2"
  | .mulw2 => "MULW2"
  | .mulb3 => "MULB3"
  | .mull3 => "MULL3"
  | .mulw3 => "MULW3"
  | .pushl => "PUSHL"
  | .rotl => "ROTL"
  | .sbwc => "SBWC"
  | .subb2 => "SUBB2"
  | .subl2 => "SUBL2"
  | .subw2 => "SUBW2"
  | .subb3 => "SUBB3"
  | .subl3 => "SUBL3"
  | .subw3 => "SUBW3"
  | .tstb => "TSTB"
  | .tstl => "TSTL"
  | .tstw => "TSTW"
  | .xorb2 => "XORB2"
  | .xorl2 => "XORL2"
  | .xorw2 => "XORW2"
  | .xorb3 => "XORB3"
  | .xorl3 => "XORL3"
  | .xorw3 => "XORW3"
  | .movab => "MOVAB"
  | .moval => "MOVAL"
  | .movaq => "MOVAQ"
  | .movaw => "MOVAW"
  | .pushab => "PUSHAB"
  | .pushal => "PUSHAL"
  | .pushaq => "PUSHAQ"
  | .pushaw => "PUSHAW"
  | .cmpv => "CMPV"
  | .cmpzv => "CMPZV"
  | .extv => "EXTV"
  | .extzv => "EXTZV"
  | .insv => "INSV"
  | .ffc => "FFC"
  | .ffs => "FFS"
  | .acbb => "ACBB"
  | .acbl => "ACBL"
  | .acbw => "ACBW"
  | .aobleq => "AOBLEQ"
  | .aoblss => "AOBLSS"
  | .bcc => "BCC"
  | .bcs => "BCS"
  | .beql => "BEQL"
  | .bgeq => "BGEQ"
  | .bgtr => "BGTR"
  | .bgtru => "BGTRU"
  | .bleq => "BLEQ"
  | .blequ => "BLEQU"
  | .blss => "BLSS"
  | .bneq => "BNEQ"
  | .bvc => "BVC"
  | .bvs => "BVS"
  | .bbc => "BBC"
  | .bbs => "BBS"
  | .bbcc => "BBCC"
  | .bbcs => "BBCS"
  | .bbsc => "BBSC"
  | .bbss => "BBSS"
  | .bbcci => "BBCCI"
  | .bbssi => "BBSSI"
  | .blbc => "BLBC"
  | .blbs => "BLBS"
  | .brb => "BRB"
  | .brw => "BRW"
  | .bsbb => "BSBB"
  | .bsbw => "BSBW"
  | .caseb => "CASEB"
  | .casel => "CASEL"
  | .casew => "CASEW"
  | .jmp => "JMP"
  | .jsb => "JSB"
  | .rsb => "RSB"
  | .sobgeq => "SOBGEQ"
  | .sobgtr => "SOBGTR"
  | .callg => "CALLG"
  | .calls => "CALLS"
  | .ret => "RET"
  | .bicpsw => "BICPSW"
  | .bispsw => "BISPSW"
  | .bpt => "BPT"
  | .halt => "HALT"
  | .index => "INDEX"
  | .movpsl => "MOVPSL"
  | .nop => "NOP"
  | .popr => "POPR"
  | .pushr => "PUSHR"
  | .xfc => "XFC"
  | .insqhi => "INSQHI"
  | .insqti => "INSQTI"
  | .insque => "INSQUE"
  | .remqhi => "REMQHI"
  | .remqti => "REMQTI"
  | .remque => "REMQUE"
  | .cmpc3 => "CMPC3"
  | .cmpc5 => "CMPC5"
  | .locc => "LOCC"
  | .movc3 => "MOVC3"
  | .movc5 => "MOVC5"
  | .scanc => "SCANC"
  | .skpc => "SKPC"
  | .spanc => "SPANC"
  | .chme => "CHME"
  | .chmk => "CHMK"
  | .chms => "CHMS"
  | .chmu => "CHMU"
  | .ldpctx => "LDPCTX"
  | .mfpr => "MFPR"
  | .mtpr => "MTPR"
  | .prober => "PROBER"
  | .probew => "PROBEW"
  | .rei => "REI"
  | .svpctx => "SVPCTX"
  | .addd2 => "ADDD2"
  | .addf2 => "ADDF2"
  | .addg2 => "ADDG2"
  | .addd3 => "ADDD3"
  | .addf3 => "ADDF3"
  | .addg3 => "ADDG3"
  | .cmpd => "CMPD"
  | .cmpf => "CMPF"
  | .cmpg => "CMPG"
  | .cvtbd => "CVTBD"
  | .cvtbf => "CVTBF"
  | .cvtbg => "CVTBG"
  | .cvtdb => "CVTDB"
  | .cvtdf => "CVTDF"
  | .cvtdl => "CVTDL"
  | .cvtdw => "CVTDW"
  | .cvtfb => "CVTFB"
  | .cvtfd => "CVTFD"
  | .cvtfg => "CVTFG"
  | .cvtfl => "CVTFL"
  | .cvtfw => "CVTFW"
  | .cvtgb => "CVTGB"
  | .cvtgf => "CVTGF"
  | .cvtgl => "CVTGL"
  | .cvtgw => "CVTGW"
  | .cvtld => "CVTLD"
  | .cvtlf => "CVTLF"
  | .cvtlg => "CVTLG"
  | .cvtwd => "CVTWD"
  | .cvtwf => "CVTWF"
  | .cvtwg => "CVTWG"
  | .cvtrdl => "CVTRDL"
  | .cvtrfl => "CVTRFL"
  | .cvtrgl => "CVTRGL"
  | .divd2 => "DIVD2"
  | .divf2 => "DIVF2"
  | .divg2 => "DIVG2"
  | .divd3 => "DIVD3"
  | .divf3 => "DIVF3"
  | .divg3 => "DIVG3"
  | .mnegd => "MNEGD"
  | .mnegf => "MNEGF"
  | .mnegg => "MNEGG"
  | .movd => "MOVD"
  | .movf => "MOVF"
  | .movg => "MOVG"
  | .muld2 => "MULD2"
  | .mulf2 => "MULF2"
  | .mulg2 => "MULG2"
  | .muld3 => "MULD3"
  | .mulf3 => "MULF3"
  | .mulg3 => "MULG3"
  | .subd2 => "SUBD2"
  | .subf2 => "SUBF2"
  | .subg2 => "SUBG2"
  | .subd3 => "SUBD3"
  | .subf3 => "SUBF3"
  | .subg3 => "SUBG3"
  | .tstd => "TSTD"
  | .tstf => "TSTF"
  | .tstg => "TSTG"
  | .addp4 => "ADDP4"
  | .addp6 => "ADDP6"
  | .ashp => "ASHP"
  | .cmpp3 => "CMPP3"
  | .cmpp4 => "CMPP4"
  | .crc => "CRC"
  | .cvtlp => "CVTLP"
  | .cvtpl => "CVTPL"
  | .cvtps => "CVTPS"
  | .cvtsp => "CVTSP"
  | .cvtpt => "CVTPT"
  | .cvttp => "CVTTP"
  | .divp => "DIVP"
  | .editpc => "EDITPC"
  | .matchc => "MATCHC"
  | .movp => "MOVP"
  | .movtc => "MOVTC"
  | .movtuc => "MOVTUC"
  | .mulp => "MULP"
  | .subp4 => "SUBP4"
  | .subp6 => "SUBP6"

/-- The further names of a row (R96, D27): thirteen names of ten rows. Match on the row, so that a row without one is
listed too. -/
def Instr.furtherNames (m : Instr) : List String :=
  match m with
  | .clrl => ["CLRF"]
  | .clrq => ["CLRD", "CLRG"]
  | .moval => ["MOVAF"]
  | .movaq => ["MOVAD", "MOVAG"]
  | .pushal => ["PUSHAF"]
  | .pushaq => ["PUSHAD", "PUSHAG"]
  | .bcc => ["BGEQU"]
  | .bcs => ["BLSSU"]
  | .beql => ["BEQLU"]
  | .bneq => ["BNEQU"]
  | .adawi | .addb2 | .addl2 | .addw2 | .addb3 | .addl3 | .addw3 | .adwc => []
  | .ashl | .ashq | .bicb2 | .bicl2 | .bicw2 | .bicb3 | .bicl3 | .bicw3 => []
  | .bisb2 | .bisl2 | .bisw2 | .bisb3 | .bisl3 | .bisw3 | .bitb | .bitl => []
  | .bitw | .clrb | .clrw | .cmpb | .cmpl | .cmpw | .cvtbl | .cvtbw => []
  | .cvtlb | .cvtlw | .cvtwb | .cvtwl | .decb | .decl | .decw | .divb2 => []
  | .divl2 | .divw2 | .divb3 | .divl3 | .divw3 | .ediv | .emul | .incb => []
  | .incl | .incw | .mcomb | .mcoml | .mcomw | .mnegb | .mnegl | .mnegw => []
  | .movb | .movl | .movq | .movw | .movzbw | .movzbl | .movzwl | .mulb2 => []
  | .mull2 | .mulw2 | .mulb3 | .mull3 | .mulw3 | .pushl | .rotl | .sbwc => []
  | .subb2 | .subl2 | .subw2 | .subb3 | .subl3 | .subw3 | .tstb | .tstl => []
  | .tstw | .xorb2 | .xorl2 | .xorw2 | .xorb3 | .xorl3 | .xorw3 | .movab => []
  | .movaw | .pushab | .pushaw | .cmpv | .cmpzv | .extv | .extzv | .insv => []
  | .ffc | .ffs | .acbb | .acbl | .acbw | .aobleq | .aoblss | .bgeq => []
  | .bgtr | .bgtru | .bleq | .blequ | .blss | .bvc | .bvs | .bbc => []
  | .bbs | .bbcc | .bbcs | .bbsc | .bbss | .bbcci | .bbssi | .blbc => []
  | .blbs | .brb | .brw | .bsbb | .bsbw | .caseb | .casel | .casew => []
  | .jmp | .jsb | .rsb | .sobgeq | .sobgtr | .callg | .calls | .ret => []
  | .bicpsw | .bispsw | .bpt | .halt | .index | .movpsl | .nop | .popr => []
  | .pushr | .xfc | .insqhi | .insqti | .insque | .remqhi | .remqti | .remque => []
  | .cmpc3 | .cmpc5 | .locc | .movc3 | .movc5 | .scanc | .skpc | .spanc => []
  | .chme | .chmk | .chms | .chmu | .ldpctx | .mfpr | .mtpr | .prober => []
  | .probew | .rei | .svpctx | .addd2 | .addf2 | .addg2 | .addd3 | .addf3 => []
  | .addg3 | .cmpd | .cmpf | .cmpg | .cvtbd | .cvtbf | .cvtbg | .cvtdb => []
  | .cvtdf | .cvtdl | .cvtdw | .cvtfb | .cvtfd | .cvtfg | .cvtfl | .cvtfw => []
  | .cvtgb | .cvtgf | .cvtgl | .cvtgw | .cvtld | .cvtlf | .cvtlg | .cvtwd => []
  | .cvtwf | .cvtwg | .cvtrdl | .cvtrfl | .cvtrgl | .divd2 | .divf2 | .divg2 => []
  | .divd3 | .divf3 | .divg3 | .mnegd | .mnegf | .mnegg | .movd | .movf => []
  | .movg | .muld2 | .mulf2 | .mulg2 | .muld3 | .mulf3 | .mulg3 | .subd2 => []
  | .subf2 | .subg2 | .subd3 | .subf3 | .subg3 | .tstd | .tstf | .tstg => []
  | .addp4 | .addp6 | .ashp | .cmpp3 | .cmpp4 | .crc | .cvtlp | .cvtpl => []
  | .cvtps | .cvtsp | .cvtpt | .cvttp | .divp | .editpc | .matchc | .movp => []
  | .movtc | .movtuc | .mulp | .subp4 | .subp6 => []

/-- The opcode of a row (R81, R82). The order `FD` first is PRESUMED (log entry 5). -/
def Instr.opcode : Instr → Opcode
  | .adawi => .one 0x58#8
  | .addb2 => .one 0x80#8
  | .addl2 => .one 0xC0#8
  | .addw2 => .one 0xA0#8
  | .addb3 => .one 0x81#8
  | .addl3 => .one 0xC1#8
  | .addw3 => .one 0xA1#8
  | .adwc => .one 0xD8#8
  | .ashl => .one 0x78#8
  | .ashq => .one 0x79#8
  | .bicb2 => .one 0x8A#8
  | .bicl2 => .one 0xCA#8
  | .bicw2 => .one 0xAA#8
  | .bicb3 => .one 0x8B#8
  | .bicl3 => .one 0xCB#8
  | .bicw3 => .one 0xAB#8
  | .bisb2 => .one 0x88#8
  | .bisl2 => .one 0xC8#8
  | .bisw2 => .one 0xA8#8
  | .bisb3 => .one 0x89#8
  | .bisl3 => .one 0xC9#8
  | .bisw3 => .one 0xA9#8
  | .bitb => .one 0x93#8
  | .bitl => .one 0xD3#8
  | .bitw => .one 0xB3#8
  | .clrb => .one 0x94#8
  | .clrl => .one 0xD4#8
  | .clrq => .one 0x7C#8
  | .clrw => .one 0xB4#8
  | .cmpb => .one 0x91#8
  | .cmpl => .one 0xD1#8
  | .cmpw => .one 0xB1#8
  | .cvtbl => .one 0x98#8
  | .cvtbw => .one 0x99#8
  | .cvtlb => .one 0xF6#8
  | .cvtlw => .one 0xF7#8
  | .cvtwb => .one 0x33#8
  | .cvtwl => .one 0x32#8
  | .decb => .one 0x97#8
  | .decl => .one 0xD7#8
  | .decw => .one 0xB7#8
  | .divb2 => .one 0x86#8
  | .divl2 => .one 0xC6#8
  | .divw2 => .one 0xA6#8
  | .divb3 => .one 0x87#8
  | .divl3 => .one 0xC7#8
  | .divw3 => .one 0xA7#8
  | .ediv => .one 0x7B#8
  | .emul => .one 0x7A#8
  | .incb => .one 0x96#8
  | .incl => .one 0xD6#8
  | .incw => .one 0xB6#8
  | .mcomb => .one 0x92#8
  | .mcoml => .one 0xD2#8
  | .mcomw => .one 0xB2#8
  | .mnegb => .one 0x8E#8
  | .mnegl => .one 0xCE#8
  | .mnegw => .one 0xAE#8
  | .movb => .one 0x90#8
  | .movl => .one 0xD0#8
  | .movq => .one 0x7D#8
  | .movw => .one 0xB0#8
  | .movzbw => .one 0x9A#8
  | .movzbl => .one 0x9B#8
  | .movzwl => .one 0x3C#8
  | .mulb2 => .one 0x84#8
  | .mull2 => .one 0xC4#8
  | .mulw2 => .one 0xA4#8
  | .mulb3 => .one 0x85#8
  | .mull3 => .one 0xC5#8
  | .mulw3 => .one 0xA5#8
  | .pushl => .one 0xDD#8
  | .rotl => .one 0x9C#8
  | .sbwc => .one 0xD9#8
  | .subb2 => .one 0x82#8
  | .subl2 => .one 0xC2#8
  | .subw2 => .one 0xA2#8
  | .subb3 => .one 0x83#8
  | .subl3 => .one 0xC3#8
  | .subw3 => .one 0xA3#8
  | .tstb => .one 0x95#8
  | .tstl => .one 0xD5#8
  | .tstw => .one 0xB5#8
  | .xorb2 => .one 0x8C#8
  | .xorl2 => .one 0xCC#8
  | .xorw2 => .one 0xAC#8
  | .xorb3 => .one 0x8D#8
  | .xorl3 => .one 0xCD#8
  | .xorw3 => .one 0xAD#8
  | .movab => .one 0x9E#8
  | .moval => .one 0xDE#8
  | .movaq => .one 0x7E#8
  | .movaw => .one 0x3E#8
  | .pushab => .one 0x9F#8
  | .pushal => .one 0xDF#8
  | .pushaq => .one 0x7F#8
  | .pushaw => .one 0x3F#8
  | .cmpv => .one 0xEC#8
  | .cmpzv => .one 0xED#8
  | .extv => .one 0xEE#8
  | .extzv => .one 0xEF#8
  | .insv => .one 0xF0#8
  | .ffc => .one 0xEB#8
  | .ffs => .one 0xEA#8
  | .acbb => .one 0x9D#8
  | .acbl => .one 0xF1#8
  | .acbw => .one 0x3D#8
  | .aobleq => .one 0xF3#8
  | .aoblss => .one 0xF2#8
  | .bcc => .one 0x1E#8
  | .bcs => .one 0x1F#8
  | .beql => .one 0x13#8
  | .bgeq => .one 0x18#8
  | .bgtr => .one 0x14#8
  | .bgtru => .one 0x1A#8
  | .bleq => .one 0x15#8
  | .blequ => .one 0x1B#8
  | .blss => .one 0x19#8
  | .bneq => .one 0x12#8
  | .bvc => .one 0x1C#8
  | .bvs => .one 0x1D#8
  | .bbc => .one 0xE1#8
  | .bbs => .one 0xE0#8
  | .bbcc => .one 0xE5#8
  | .bbcs => .one 0xE3#8
  | .bbsc => .one 0xE4#8
  | .bbss => .one 0xE2#8
  | .bbcci => .one 0xE7#8
  | .bbssi => .one 0xE6#8
  | .blbc => .one 0xE9#8
  | .blbs => .one 0xE8#8
  | .brb => .one 0x11#8
  | .brw => .one 0x31#8
  | .bsbb => .one 0x10#8
  | .bsbw => .one 0x30#8
  | .caseb => .one 0x8F#8
  | .casel => .one 0xCF#8
  | .casew => .one 0xAF#8
  | .jmp => .one 0x17#8
  | .jsb => .one 0x16#8
  | .rsb => .one 0x05#8
  | .sobgeq => .one 0xF4#8
  | .sobgtr => .one 0xF5#8
  | .callg => .one 0xFA#8
  | .calls => .one 0xFB#8
  | .ret => .one 0x04#8
  | .bicpsw => .one 0xB9#8
  | .bispsw => .one 0xB8#8
  | .bpt => .one 0x03#8
  | .halt => .one 0x00#8
  | .index => .one 0x0A#8
  | .movpsl => .one 0xDC#8
  | .nop => .one 0x01#8
  | .popr => .one 0xBA#8
  | .pushr => .one 0xBB#8
  | .xfc => .one 0xFC#8
  | .insqhi => .one 0x5C#8
  | .insqti => .one 0x5D#8
  | .insque => .one 0x0E#8
  | .remqhi => .one 0x5E#8
  | .remqti => .one 0x5F#8
  | .remque => .one 0x0F#8
  | .cmpc3 => .one 0x29#8
  | .cmpc5 => .one 0x2D#8
  | .locc => .one 0x3A#8
  | .movc3 => .one 0x28#8
  | .movc5 => .one 0x2C#8
  | .scanc => .one 0x2A#8
  | .skpc => .one 0x3B#8
  | .spanc => .one 0x2B#8
  | .chme => .one 0xBD#8
  | .chmk => .one 0xBC#8
  | .chms => .one 0xBE#8
  | .chmu => .one 0xBF#8
  | .ldpctx => .one 0x06#8
  | .mfpr => .one 0xDB#8
  | .mtpr => .one 0xDA#8
  | .prober => .one 0x0C#8
  | .probew => .one 0x0D#8
  | .rei => .one 0x02#8
  | .svpctx => .one 0x07#8
  | .addd2 => .one 0x60#8
  | .addf2 => .one 0x40#8
  | .addg2 => .fd 0x40#8
  | .addd3 => .one 0x61#8
  | .addf3 => .one 0x41#8
  | .addg3 => .fd 0x41#8
  | .cmpd => .one 0x71#8
  | .cmpf => .one 0x51#8
  | .cmpg => .fd 0x51#8
  | .cvtbd => .one 0x6C#8
  | .cvtbf => .one 0x4C#8
  | .cvtbg => .fd 0x4C#8
  | .cvtdb => .one 0x68#8
  | .cvtdf => .one 0x76#8
  | .cvtdl => .one 0x6A#8
  | .cvtdw => .one 0x69#8
  | .cvtfb => .one 0x48#8
  | .cvtfd => .one 0x56#8
  | .cvtfg => .fd 0x99#8
  | .cvtfl => .one 0x4A#8
  | .cvtfw => .one 0x49#8
  | .cvtgb => .fd 0x48#8
  | .cvtgf => .fd 0x33#8
  | .cvtgl => .fd 0x4A#8
  | .cvtgw => .fd 0x49#8
  | .cvtld => .one 0x6E#8
  | .cvtlf => .one 0x4E#8
  | .cvtlg => .fd 0x4E#8
  | .cvtwd => .one 0x6D#8
  | .cvtwf => .one 0x4D#8
  | .cvtwg => .fd 0x4D#8
  | .cvtrdl => .one 0x6B#8
  | .cvtrfl => .one 0x4B#8
  | .cvtrgl => .fd 0x4B#8
  | .divd2 => .one 0x66#8
  | .divf2 => .one 0x46#8
  | .divg2 => .fd 0x46#8
  | .divd3 => .one 0x67#8
  | .divf3 => .one 0x47#8
  | .divg3 => .fd 0x47#8
  | .mnegd => .one 0x72#8
  | .mnegf => .one 0x52#8
  | .mnegg => .fd 0x52#8
  | .movd => .one 0x70#8
  | .movf => .one 0x50#8
  | .movg => .fd 0x50#8
  | .muld2 => .one 0x64#8
  | .mulf2 => .one 0x44#8
  | .mulg2 => .fd 0x44#8
  | .muld3 => .one 0x65#8
  | .mulf3 => .one 0x45#8
  | .mulg3 => .fd 0x45#8
  | .subd2 => .one 0x62#8
  | .subf2 => .one 0x42#8
  | .subg2 => .fd 0x42#8
  | .subd3 => .one 0x63#8
  | .subf3 => .one 0x43#8
  | .subg3 => .fd 0x43#8
  | .tstd => .one 0x73#8
  | .tstf => .one 0x53#8
  | .tstg => .fd 0x53#8
  | .addp4 => .one 0x20#8
  | .addp6 => .one 0x21#8
  | .ashp => .one 0xF8#8
  | .cmpp3 => .one 0x35#8
  | .cmpp4 => .one 0x37#8
  | .crc => .one 0x0B#8
  | .cvtlp => .one 0xF9#8
  | .cvtpl => .one 0x36#8
  | .cvtps => .one 0x08#8
  | .cvtsp => .one 0x09#8
  | .cvtpt => .one 0x24#8
  | .cvttp => .one 0x26#8
  | .divp => .one 0x27#8
  | .editpc => .one 0x38#8
  | .matchc => .one 0x39#8
  | .movp => .one 0x34#8
  | .movtc => .one 0x2E#8
  | .movtuc => .one 0x2F#8
  | .mulp => .one 0x25#8
  | .subp4 => .one 0x22#8
  | .subp6 => .one 0x23#8

/-- An operand specifier `name.<access><type>` of a row's list. -/
def specDecl (name : String) (access : Access) (dtype : DType) : OperandDecl := ⟨name, access, dtype, false⟩

/-- A branch displacement `displ.bb`, `displ.bw` or, as a list, `displ.bw-list` (R91). -/
def displDecl (dtype : DType) (isList : Bool) : OperandDecl := ⟨"displ", .b, dtype, isList⟩

/-- The operands that are written in the instruction, in order, sources first and the displacement last (R83); operand
types as corrected by C1, C2, C3 and C5. -/
def Instr.operandDecls : Instr → List OperandDecl
  | .adawi => [specDecl "add" .r .w, specDecl "sum" .m .w]
  | .addb2 => [specDecl "add" .r .b, specDecl "sum" .m .b]
  | .addl2 => [specDecl "add" .r .l, specDecl "sum" .m .l]
  | .addw2 => [specDecl "add" .r .w, specDecl "sum" .m .w]
  | .addb3 => [specDecl "add1" .r .b, specDecl "add2" .r .b, specDecl "sum" .w .b]
  | .addl3 => [specDecl "add1" .r .l, specDecl "add2" .r .l, specDecl "sum" .w .l]
  | .addw3 => [specDecl "add1" .r .w, specDecl "add2" .r .w, specDecl "sum" .w .w]
  | .adwc => [specDecl "add" .r .l, specDecl "sum" .m .l]
  | .ashl => [specDecl "cnt" .r .b, specDecl "src" .r .l, specDecl "dst" .w .l]
  | .ashq => [specDecl "cnt" .r .b, specDecl "src" .r .q, specDecl "dst" .w .q]
  | .bicb2 => [specDecl "mask" .r .b, specDecl "dst" .m .b]
  | .bicl2 => [specDecl "mask" .r .l, specDecl "dst" .m .l]
  | .bicw2 => [specDecl "mask" .r .w, specDecl "dst" .m .w]
  | .bicb3 => [specDecl "mask" .r .b, specDecl "src" .r .b, specDecl "dst" .w .b]
  | .bicl3 => [specDecl "mask" .r .l, specDecl "src" .r .l, specDecl "dst" .w .l]
  | .bicw3 => [specDecl "mask" .r .w, specDecl "src" .r .w, specDecl "dst" .w .w]
  | .bisb2 => [specDecl "mask" .r .b, specDecl "dst" .m .b]
  | .bisl2 => [specDecl "mask" .r .l, specDecl "dst" .m .l]
  | .bisw2 => [specDecl "mask" .r .w, specDecl "dst" .m .w]
  | .bisb3 => [specDecl "mask" .r .b, specDecl "src" .r .b, specDecl "dst" .w .b]
  | .bisl3 => [specDecl "mask" .r .l, specDecl "src" .r .l, specDecl "dst" .w .l]
  | .bisw3 => [specDecl "mask" .r .w, specDecl "src" .r .w, specDecl "dst" .w .w]
  | .bitb => [specDecl "mask" .r .b, specDecl "src" .r .b]
  | .bitl => [specDecl "mask" .r .l, specDecl "src" .r .l]
  | .bitw => [specDecl "mask" .r .w, specDecl "src" .r .w]
  | .clrb => [specDecl "dst" .w .b]
  | .clrl => [specDecl "dst" .w .l]
  | .clrq => [specDecl "dst" .w .q]
  | .clrw => [specDecl "dst" .w .w]
  | .cmpb => [specDecl "src1" .r .b, specDecl "src2" .r .b]
  | .cmpl => [specDecl "src1" .r .l, specDecl "src2" .r .l]
  | .cmpw => [specDecl "src1" .r .w, specDecl "src2" .r .w]
  | .cvtbl => [specDecl "src" .r .b, specDecl "dst" .w .l]
  | .cvtbw => [specDecl "src" .r .b, specDecl "dst" .w .w]
  | .cvtlb => [specDecl "src" .r .l, specDecl "dst" .w .b]
  | .cvtlw => [specDecl "src" .r .l, specDecl "dst" .w .w]
  | .cvtwb => [specDecl "src" .r .w, specDecl "dst" .w .b]
  | .cvtwl => [specDecl "src" .r .w, specDecl "dst" .w .l]
  | .decb => [specDecl "dif" .m .b]
  | .decl => [specDecl "dif" .m .l]
  | .decw => [specDecl "dif" .m .w]
  | .divb2 => [specDecl "divr" .r .b, specDecl "quo" .m .b]
  | .divl2 => [specDecl "divr" .r .l, specDecl "quo" .m .l]
  | .divw2 => [specDecl "divr" .r .w, specDecl "quo" .m .w]
  | .divb3 => [specDecl "divr" .r .b, specDecl "divd" .r .b, specDecl "quo" .w .b]
  | .divl3 => [specDecl "divr" .r .l, specDecl "divd" .r .l, specDecl "quo" .w .l]
  | .divw3 => [specDecl "divr" .r .w, specDecl "divd" .r .w, specDecl "quo" .w .w]
  | .ediv => [specDecl "divr" .r .l, specDecl "divd" .r .q, specDecl "quo" .w .l, specDecl "rem" .w .l]
  | .emul => [specDecl "mulr" .r .l, specDecl "muld" .r .l, specDecl "add" .r .l, specDecl "prod" .w .q]
  | .incb => [specDecl "sum" .m .b]
  | .incl => [specDecl "sum" .m .l]
  | .incw => [specDecl "sum" .m .w]
  | .mcomb => [specDecl "src" .r .b, specDecl "dst" .w .b]
  | .mcoml => [specDecl "src" .r .l, specDecl "dst" .w .l]
  | .mcomw => [specDecl "src" .r .w, specDecl "dst" .w .w]
  | .mnegb => [specDecl "src" .r .b, specDecl "dst" .w .b]
  | .mnegl => [specDecl "src" .r .l, specDecl "dst" .w .l]
  | .mnegw => [specDecl "src" .r .w, specDecl "dst" .w .w]
  | .movb => [specDecl "src" .r .b, specDecl "dst" .w .b]
  | .movl => [specDecl "src" .r .l, specDecl "dst" .w .l]
  | .movq => [specDecl "src" .r .q, specDecl "dst" .w .q]
  | .movw => [specDecl "src" .r .w, specDecl "dst" .w .w]
  | .movzbw => [specDecl "src" .r .b, specDecl "dst" .w .w]
  | .movzbl => [specDecl "src" .r .b, specDecl "dst" .w .l]
  | .movzwl => [specDecl "src" .r .w, specDecl "dst" .w .l]
  | .mulb2 => [specDecl "mulr" .r .b, specDecl "prod" .m .b]
  | .mull2 => [specDecl "mulr" .r .l, specDecl "prod" .m .l]
  | .mulw2 => [specDecl "mulr" .r .w, specDecl "prod" .m .w]
  | .mulb3 => [specDecl "mulr" .r .b, specDecl "muld" .r .b, specDecl "prod" .w .b]
  | .mull3 => [specDecl "mulr" .r .l, specDecl "muld" .r .l, specDecl "prod" .w .l]
  | .mulw3 => [specDecl "mulr" .r .w, specDecl "muld" .r .w, specDecl "prod" .w .w]
  | .pushl => [specDecl "src" .r .l]
  | .rotl => [specDecl "cnt" .r .b, specDecl "src" .r .l, specDecl "dst" .w .l]
  | .sbwc => [specDecl "sub" .r .l, specDecl "dif" .m .l]
  | .subb2 => [specDecl "sub" .r .b, specDecl "dif" .m .b]
  | .subl2 => [specDecl "sub" .r .l, specDecl "dif" .m .l]
  | .subw2 => [specDecl "sub" .r .w, specDecl "dif" .m .w]
  | .subb3 => [specDecl "sub" .r .b, specDecl "min" .r .b, specDecl "dif" .w .b]
  | .subl3 => [specDecl "sub" .r .l, specDecl "min" .r .l, specDecl "dif" .w .l]
  | .subw3 => [specDecl "sub" .r .w, specDecl "min" .r .w, specDecl "dif" .w .w]
  | .tstb => [specDecl "src" .r .b]
  | .tstl => [specDecl "src" .r .l]
  | .tstw => [specDecl "src" .r .w]
  | .xorb2 => [specDecl "mask" .r .b, specDecl "dst" .m .b]
  | .xorl2 => [specDecl "mask" .r .l, specDecl "dst" .m .l]
  | .xorw2 => [specDecl "mask" .r .w, specDecl "dst" .m .w]
  | .xorb3 => [specDecl "mask" .r .b, specDecl "src" .r .b, specDecl "dst" .w .b]
  | .xorl3 => [specDecl "mask" .r .l, specDecl "src" .r .l, specDecl "dst" .w .l]
  | .xorw3 => [specDecl "mask" .r .w, specDecl "src" .r .w, specDecl "dst" .w .w]
  | .movab => [specDecl "src" .a .b, specDecl "dst" .w .l]
  | .moval => [specDecl "src" .a .l, specDecl "dst" .w .l]
  | .movaq => [specDecl "src" .a .q, specDecl "dst" .w .l]
  | .movaw => [specDecl "src" .a .w, specDecl "dst" .w .l]
  | .pushab => [specDecl "src" .a .b]
  | .pushal => [specDecl "src" .a .l]
  | .pushaq => [specDecl "src" .a .q]
  | .pushaw => [specDecl "src" .a .w]
  | .cmpv => [specDecl "pos" .r .l, specDecl "size" .r .b, specDecl "base" .v .b, specDecl "src" .r .l]
  | .cmpzv => [specDecl "pos" .r .l, specDecl "size" .r .b, specDecl "base" .v .b, specDecl "src" .r .l]
  | .extv => [specDecl "pos" .r .l, specDecl "size" .r .b, specDecl "base" .v .b, specDecl "dst" .w .l]
  | .extzv => [specDecl "pos" .r .l, specDecl "size" .r .b, specDecl "base" .v .b, specDecl "dst" .w .l]
  | .insv => [specDecl "src" .r .l, specDecl "pos" .r .l, specDecl "size" .r .b, specDecl "base" .v .b]
  | .ffc => [specDecl "startpos" .r .l, specDecl "size" .r .b, specDecl "base" .v .b, specDecl "findpos" .w .l]
  | .ffs => [specDecl "startpos" .r .l, specDecl "size" .r .b, specDecl "base" .v .b, specDecl "findpos" .w .l]
  | .acbb => [specDecl "limit" .r .b, specDecl "add" .r .b, specDecl "index" .m .b, displDecl .w false]
  | .acbl => [specDecl "limit" .r .l, specDecl "add" .r .l, specDecl "index" .m .l, displDecl .w false]
  | .acbw => [specDecl "limit" .r .w, specDecl "add" .r .w, specDecl "index" .m .w, displDecl .w false]
  | .aobleq => [specDecl "limit" .r .l, specDecl "index" .m .l, displDecl .b false]
  | .aoblss => [specDecl "limit" .r .l, specDecl "index" .m .l, displDecl .b false]
  | .bcc => [displDecl .b false]
  | .bcs => [displDecl .b false]
  | .beql => [displDecl .b false]
  | .bgeq => [displDecl .b false]
  | .bgtr => [displDecl .b false]
  | .bgtru => [displDecl .b false]
  | .bleq => [displDecl .b false]
  | .blequ => [displDecl .b false]
  | .blss => [displDecl .b false]
  | .bneq => [displDecl .b false]
  | .bvc => [displDecl .b false]
  | .bvs => [displDecl .b false]
  | .bbc => [specDecl "pos" .r .l, specDecl "base" .v .b, displDecl .b false]
  | .bbs => [specDecl "pos" .r .l, specDecl "base" .v .b, displDecl .b false]
  | .bbcc => [specDecl "pos" .r .l, specDecl "base" .v .b, displDecl .b false]
  | .bbcs => [specDecl "pos" .r .l, specDecl "base" .v .b, displDecl .b false]
  | .bbsc => [specDecl "pos" .r .l, specDecl "base" .v .b, displDecl .b false]
  | .bbss => [specDecl "pos" .r .l, specDecl "base" .v .b, displDecl .b false]
  | .bbcci => [specDecl "pos" .r .l, specDecl "base" .v .b, displDecl .b false]
  | .bbssi => [specDecl "pos" .r .l, specDecl "base" .v .b, displDecl .b false]
  | .blbc => [specDecl "src" .r .l, displDecl .b false]
  | .blbs => [specDecl "src" .r .l, displDecl .b false]
  | .brb => [displDecl .b false]
  | .brw => [displDecl .w false]
  | .bsbb => [displDecl .b false]
  | .bsbw => [displDecl .w false]
  | .caseb => [specDecl "selector" .r .b, specDecl "base" .r .b, specDecl "limit" .r .b, displDecl .w true]
  | .casel => [specDecl "selector" .r .l, specDecl "base" .r .l, specDecl "limit" .r .l, displDecl .w true]
  | .casew => [specDecl "selector" .r .w, specDecl "base" .r .w, specDecl "limit" .r .w, displDecl .w true]
  | .jmp => [specDecl "dst" .a .b]
  | .jsb => [specDecl "dst" .a .b]
  | .rsb => []
  | .sobgeq => [specDecl "index" .m .l, displDecl .b false]
  | .sobgtr => [specDecl "index" .m .l, displDecl .b false]
  | .callg => [specDecl "arglist" .a .b, specDecl "dst" .a .b]
  | .calls => [specDecl "numarg" .r .l, specDecl "dst" .a .b]
  | .ret => []
  | .bicpsw => [specDecl "mask" .r .w]
  | .bispsw => [specDecl "mask" .r .w]
  | .bpt => []
  | .halt => []
  | .index => [specDecl "subscript" .r .l, specDecl "low" .r .l, specDecl "high" .r .l, specDecl "size" .r .l, specDecl "indexin" .r .l, specDecl "indexout" .w .l]
  | .movpsl => [specDecl "dst" .w .l]
  | .nop => []
  | .popr => [specDecl "mask" .r .w]
  | .pushr => [specDecl "mask" .r .w]
  | .xfc => []
  | .insqhi => [specDecl "entry" .a .b, specDecl "header" .a .q]
  | .insqti => [specDecl "entry" .a .b, specDecl "header" .a .q]
  | .insque => [specDecl "entry" .a .b, specDecl "pred" .a .b]
  | .remqhi => [specDecl "header" .a .q, specDecl "addr" .w .l]
  | .remqti => [specDecl "header" .a .q, specDecl "addr" .w .l]
  | .remque => [specDecl "entry" .a .b, specDecl "addr" .w .l]
  | .cmpc3 => [specDecl "len" .r .w, specDecl "src1addr" .a .b, specDecl "src2addr" .a .b]
  | .cmpc5 => [specDecl "src1len" .r .w, specDecl "src1addr" .a .b, specDecl "fill" .r .b, specDecl "src2len" .r .w, specDecl "src2addr" .a .b]
  | .locc => [specDecl "char" .r .b, specDecl "len" .r .w, specDecl "addr" .a .b]
  | .movc3 => [specDecl "len" .r .w, specDecl "srcaddr" .a .b, specDecl "dstaddr" .a .b]
  | .movc5 => [specDecl "srclen" .r .w, specDecl "srcaddr" .a .b, specDecl "fill" .r .b, specDecl "dstlen" .r .w, specDecl "dstaddr" .a .b]
  | .scanc => [specDecl "len" .r .w, specDecl "addr" .a .b, specDecl "tbladdr" .a .b, specDecl "mask" .r .b]
  | .skpc => [specDecl "char" .r .b, specDecl "len" .r .w, specDecl "addr" .a .b]
  | .spanc => [specDecl "len" .r .w, specDecl "addr" .a .b, specDecl "tbladdr" .a .b, specDecl "mask" .r .b]
  | .chme => [specDecl "param" .r .w]
  | .chmk => [specDecl "param" .r .w]
  | .chms => [specDecl "param" .r .w]
  | .chmu => [specDecl "param" .r .w]
  | .ldpctx => []
  | .mfpr => [specDecl "procreg" .r .l, specDecl "dst" .w .l]
  | .mtpr => [specDecl "src" .r .l, specDecl "procreg" .r .l]
  | .prober => [specDecl "mode" .r .b, specDecl "len" .r .w, specDecl "base" .a .b]
  | .probew => [specDecl "mode" .r .b, specDecl "len" .r .w, specDecl "base" .a .b]
  | .rei => []
  | .svpctx => []
  | .addd2 => [specDecl "add" .r .d, specDecl "sum" .m .d]
  | .addf2 => [specDecl "add" .r .f, specDecl "sum" .m .f]
  | .addg2 => [specDecl "add" .r .g, specDecl "sum" .m .g]
  | .addd3 => [specDecl "add1" .r .d, specDecl "add2" .r .d, specDecl "sum" .w .d]
  | .addf3 => [specDecl "add1" .r .f, specDecl "add2" .r .f, specDecl "sum" .w .f]
  | .addg3 => [specDecl "add1" .r .g, specDecl "add2" .r .g, specDecl "sum" .w .g]
  | .cmpd => [specDecl "src1" .r .d, specDecl "src2" .r .d]
  | .cmpf => [specDecl "src1" .r .f, specDecl "src2" .r .f]
  | .cmpg => [specDecl "src1" .r .g, specDecl "src2" .r .g]
  | .cvtbd => [specDecl "src" .r .b, specDecl "dst" .w .d]
  | .cvtbf => [specDecl "src" .r .b, specDecl "dst" .w .f]
  | .cvtbg => [specDecl "src" .r .b, specDecl "dst" .w .g]
  | .cvtdb => [specDecl "src" .r .d, specDecl "dst" .w .b]
  | .cvtdf => [specDecl "src" .r .d, specDecl "dst" .w .f]
  | .cvtdl => [specDecl "src" .r .d, specDecl "dst" .w .l]
  | .cvtdw => [specDecl "src" .r .d, specDecl "dst" .w .w]
  | .cvtfb => [specDecl "src" .r .f, specDecl "dst" .w .b]
  | .cvtfd => [specDecl "src" .r .f, specDecl "dst" .w .d]
  | .cvtfg => [specDecl "src" .r .f, specDecl "dst" .w .g]
  | .cvtfl => [specDecl "src" .r .f, specDecl "dst" .w .l]
  | .cvtfw => [specDecl "src" .r .f, specDecl "dst" .w .w]
  | .cvtgb => [specDecl "src" .r .g, specDecl "dst" .w .b]
  | .cvtgf => [specDecl "src" .r .g, specDecl "dst" .w .f]
  | .cvtgl => [specDecl "src" .r .g, specDecl "dst" .w .l]
  | .cvtgw => [specDecl "src" .r .g, specDecl "dst" .w .w]
  | .cvtld => [specDecl "src" .r .l, specDecl "dst" .w .d]
  | .cvtlf => [specDecl "src" .r .l, specDecl "dst" .w .f]
  | .cvtlg => [specDecl "src" .r .l, specDecl "dst" .w .g]
  | .cvtwd => [specDecl "src" .r .w, specDecl "dst" .w .d]
  | .cvtwf => [specDecl "src" .r .w, specDecl "dst" .w .f]
  | .cvtwg => [specDecl "src" .r .w, specDecl "dst" .w .g]
  | .cvtrdl => [specDecl "src" .r .d, specDecl "dst" .w .l]
  | .cvtrfl => [specDecl "src" .r .f, specDecl "dst" .w .l]
  | .cvtrgl => [specDecl "src" .r .g, specDecl "dst" .w .l]
  | .divd2 => [specDecl "divr" .r .d, specDecl "quo" .m .d]
  | .divf2 => [specDecl "divr" .r .f, specDecl "quo" .m .f]
  | .divg2 => [specDecl "divr" .r .g, specDecl "quo" .m .g]
  | .divd3 => [specDecl "divr" .r .d, specDecl "divd" .r .d, specDecl "quo" .w .d]
  | .divf3 => [specDecl "divr" .r .f, specDecl "divd" .r .f, specDecl "quo" .w .f]
  | .divg3 => [specDecl "divr" .r .g, specDecl "divd" .r .g, specDecl "quo" .w .g]
  | .mnegd => [specDecl "src" .r .d, specDecl "dst" .w .d]
  | .mnegf => [specDecl "src" .r .f, specDecl "dst" .w .f]
  | .mnegg => [specDecl "src" .r .g, specDecl "dst" .w .g]
  | .movd => [specDecl "src" .r .d, specDecl "dst" .w .d]
  | .movf => [specDecl "src" .r .f, specDecl "dst" .w .f]
  | .movg => [specDecl "src" .r .g, specDecl "dst" .w .g]
  | .muld2 => [specDecl "mulr" .r .d, specDecl "prod" .m .d]
  | .mulf2 => [specDecl "mulr" .r .f, specDecl "prod" .m .f]
  | .mulg2 => [specDecl "mulr" .r .g, specDecl "prod" .m .g]
  | .muld3 => [specDecl "mulr" .r .d, specDecl "muld" .r .d, specDecl "prod" .w .d]
  | .mulf3 => [specDecl "mulr" .r .f, specDecl "muld" .r .f, specDecl "prod" .w .f]
  | .mulg3 => [specDecl "mulr" .r .g, specDecl "muld" .r .g, specDecl "prod" .w .g]
  | .subd2 => [specDecl "sub" .r .d, specDecl "dif" .m .d]
  | .subf2 => [specDecl "sub" .r .f, specDecl "dif" .m .f]
  | .subg2 => [specDecl "sub" .r .g, specDecl "dif" .m .g]
  | .subd3 => [specDecl "sub" .r .d, specDecl "min" .r .d, specDecl "dif" .w .d]
  | .subf3 => [specDecl "sub" .r .f, specDecl "min" .r .f, specDecl "dif" .w .f]
  | .subg3 => [specDecl "sub" .r .g, specDecl "min" .r .g, specDecl "dif" .w .g]
  | .tstd => [specDecl "src" .r .d]
  | .tstf => [specDecl "src" .r .f]
  | .tstg => [specDecl "src" .r .g]
  | .addp4 => [specDecl "addlen" .r .w, specDecl "addaddr" .a .b, specDecl "sumlen" .r .w, specDecl "sumaddr" .a .b]
  | .addp6 => [specDecl "add1len" .r .w, specDecl "add1addr" .a .b, specDecl "add2len" .r .w, specDecl "add2addr" .a .b, specDecl "sumlen" .r .w, specDecl "sumaddr" .a .b]
  | .ashp => [specDecl "cnt" .r .b, specDecl "srclen" .r .w, specDecl "srcaddr" .a .b, specDecl "round" .r .b, specDecl "dstlen" .r .w, specDecl "dstaddr" .a .b]
  | .cmpp3 => [specDecl "len" .r .w, specDecl "src1addr" .a .b, specDecl "src2addr" .a .b]
  | .cmpp4 => [specDecl "src1len" .r .w, specDecl "src1addr" .a .b, specDecl "src2len" .r .w, specDecl "src2addr" .a .b]
  | .crc => [specDecl "tbl" .a .b, specDecl "inicrc" .r .l, specDecl "strlen" .r .w, specDecl "stream" .a .b]
  | .cvtlp => [specDecl "src" .r .l, specDecl "dstlen" .r .w, specDecl "dstaddr" .a .b]
  | .cvtpl => [specDecl "srclen" .r .w, specDecl "srcaddr" .a .b, specDecl "dst" .w .l]
  | .cvtps => [specDecl "srclen" .r .w, specDecl "srcaddr" .a .b, specDecl "dstlen" .r .w, specDecl "dstaddr" .a .b]
  | .cvtsp => [specDecl "srclen" .r .w, specDecl "srcaddr" .a .b, specDecl "dstlen" .r .w, specDecl "dstaddr" .a .b]
  | .cvtpt => [specDecl "srclen" .r .w, specDecl "srcaddr" .a .b, specDecl "tbladdr" .a .b, specDecl "dstlen" .r .w, specDecl "dstaddr" .a .b]
  | .cvttp => [specDecl "srclen" .r .w, specDecl "srcaddr" .a .b, specDecl "tbladdr" .a .b, specDecl "dstlen" .r .w, specDecl "dstaddr" .a .b]
  | .divp => [specDecl "divrlen" .r .w, specDecl "divraddr" .a .b, specDecl "divdlen" .r .w, specDecl "divdaddr" .a .b, specDecl "quolen" .r .w, specDecl "quoaddr" .a .b]
  | .editpc => [specDecl "srclen" .r .w, specDecl "srcaddr" .a .b, specDecl "pattern" .a .b, specDecl "dstaddr" .a .b]
  | .matchc => [specDecl "objlen" .r .w, specDecl "objaddr" .a .b, specDecl "srclen" .r .w, specDecl "srcaddr" .a .b]
  | .movp => [specDecl "len" .r .w, specDecl "srcaddr" .a .b, specDecl "dstaddr" .a .b]
  | .movtc => [specDecl "srclen" .r .w, specDecl "srcaddr" .a .b, specDecl "fill" .r .b, specDecl "tbladdr" .a .b, specDecl "dstlen" .r .w, specDecl "dstaddr" .a .b]
  | .movtuc => [specDecl "srclen" .r .w, specDecl "srcaddr" .a .b, specDecl "esc" .r .b, specDecl "tbladdr" .a .b, specDecl "dstlen" .r .w, specDecl "dstaddr" .a .b]
  | .mulp => [specDecl "mulrlen" .r .w, specDecl "mulraddr" .a .b, specDecl "muldlen" .r .w, specDecl "muldaddr" .a .b, specDecl "prodlen" .r .w, specDecl "prodaddr" .a .b]
  | .subp4 => [specDecl "sublen" .r .w, specDecl "subaddr" .a .b, specDecl "diflen" .r .w, specDecl "difaddr" .a .b]
  | .subp6 => [specDecl "sublen" .r .w, specDecl "subaddr" .a .b, specDecl "minlen" .r .w, specDecl "minaddr" .a .b, specDecl "diflen" .r .w, specDecl "difaddr" .a .b]

/-- The implied operands of a row (R92). -/
def Instr.implied : Instr → List Implied
  | .pushl => [.pushSpLong]
  | .pushab => [.pushSpLong]
  | .pushal => [.pushSpLong]
  | .pushaq => [.pushSpLong]
  | .pushaw => [.pushSpLong]
  | .cmpv => [.fieldRead]
  | .cmpzv => [.fieldRead]
  | .extv => [.fieldRead]
  | .extzv => [.fieldRead]
  | .insv => [.fieldWrite]
  | .ffc => [.fieldRead]
  | .ffs => [.fieldRead]
  | .bbc => [.fieldRead]
  | .bbs => [.fieldRead]
  | .bbcc => [.fieldModify]
  | .bbcs => [.fieldModify]
  | .bbsc => [.fieldModify]
  | .bbss => [.fieldModify]
  | .bbcci => [.fieldModify]
  | .bbssi => [.fieldModify]
  | .bsbb => [.pushSpLong]
  | .bsbw => [.pushSpLong]
  | .jsb => [.pushSpLong]
  | .rsb => [.popSpLong]
  | .callg => [.pushSpMany]
  | .calls => [.pushSpMany]
  | .ret => [.popSpMany]
  | .bpt => [.pushKspMany]
  | .halt => [.pushKspMany]
  | .popr => [.popSpMany]
  | .pushr => [.pushSpMany]
  | .xfc => [.unspecified]
  | .chme => [.pushYspMany]
  | .chmk => [.pushYspMany]
  | .chms => [.pushYspMany]
  | .chmu => [.pushYspMany]
  | .ldpctx => [.pcbRead, .pushKspMany]
  | .rei => [.popSpMany]
  | .svpctx => [.popSpMany, .pcbWrite]
  | .adawi | .addb2 | .addl2 | .addw2 | .addb3 | .addl3 | .addw3 | .adwc => []
  | .ashl | .ashq | .bicb2 | .bicl2 | .bicw2 | .bicb3 | .bicl3 | .bicw3 => []
  | .bisb2 | .bisl2 | .bisw2 | .bisb3 | .bisl3 | .bisw3 | .bitb | .bitl => []
  | .bitw | .clrb | .clrl | .clrq | .clrw | .cmpb | .cmpl | .cmpw => []
  | .cvtbl | .cvtbw | .cvtlb | .cvtlw | .cvtwb | .cvtwl | .decb | .decl => []
  | .decw | .divb2 | .divl2 | .divw2 | .divb3 | .divl3 | .divw3 | .ediv => []
  | .emul | .incb | .incl | .incw | .mcomb | .mcoml | .mcomw | .mnegb => []
  | .mnegl | .mnegw | .movb | .movl | .movq | .movw | .movzbw | .movzbl => []
  | .movzwl | .mulb2 | .mull2 | .mulw2 | .mulb3 | .mull3 | .mulw3 | .rotl => []
  | .sbwc | .subb2 | .subl2 | .subw2 | .subb3 | .subl3 | .subw3 | .tstb => []
  | .tstl | .tstw | .xorb2 | .xorl2 | .xorw2 | .xorb3 | .xorl3 | .xorw3 => []
  | .movab | .moval | .movaq | .movaw | .acbb | .acbl | .acbw | .aobleq => []
  | .aoblss | .bcc | .bcs | .beql | .bgeq | .bgtr | .bgtru | .bleq => []
  | .blequ | .blss | .bneq | .bvc | .bvs | .blbc | .blbs | .brb => []
  | .brw | .caseb | .casel | .casew | .jmp | .sobgeq | .sobgtr | .bicpsw => []
  | .bispsw | .index | .movpsl | .nop | .insqhi | .insqti | .insque | .remqhi => []
  | .remqti | .remque | .cmpc3 | .cmpc5 | .locc | .movc3 | .movc5 | .scanc => []
  | .skpc | .spanc | .mfpr | .mtpr | .prober | .probew | .addd2 | .addf2 => []
  | .addg2 | .addd3 | .addf3 | .addg3 | .cmpd | .cmpf | .cmpg | .cvtbd => []
  | .cvtbf | .cvtbg | .cvtdb | .cvtdf | .cvtdl | .cvtdw | .cvtfb | .cvtfd => []
  | .cvtfg | .cvtfl | .cvtfw | .cvtgb | .cvtgf | .cvtgl | .cvtgw | .cvtld => []
  | .cvtlf | .cvtlg | .cvtwd | .cvtwf | .cvtwg | .cvtrdl | .cvtrfl | .cvtrgl => []
  | .divd2 | .divf2 | .divg2 | .divd3 | .divf3 | .divg3 | .mnegd | .mnegf => []
  | .mnegg | .movd | .movf | .movg | .muld2 | .mulf2 | .mulg2 | .muld3 => []
  | .mulf3 | .mulg3 | .subd2 | .subf2 | .subg2 | .subd3 | .subf3 | .subg3 => []
  | .tstd | .tstf | .tstg | .addp4 | .addp6 | .ashp | .cmpp3 | .cmpp4 => []
  | .crc | .cvtlp | .cvtpl | .cvtps | .cvtsp | .cvtpt | .cvttp | .divp => []
  | .editpc | .matchc | .movp | .movtc | .movtuc | .mulp | .subp4 | .subp6 => []

/-- The number of the rule that holds a row (R98, field `rule`). -/
def Instr.ruleNo : Instr → Nat
  | .adawi => 204
  | .addb2 => 205
  | .addl2 => 206
  | .addw2 => 207
  | .addb3 => 208
  | .addl3 => 209
  | .addw3 => 210
  | .adwc => 211
  | .ashl => 212
  | .ashq => 213
  | .bicb2 => 214
  | .bicl2 => 215
  | .bicw2 => 216
  | .bicb3 => 217
  | .bicl3 => 218
  | .bicw3 => 219
  | .bisb2 => 220
  | .bisl2 => 221
  | .bisw2 => 222
  | .bisb3 => 223
  | .bisl3 => 224
  | .bisw3 => 225
  | .bitb => 226
  | .bitl => 227
  | .bitw => 228
  | .clrb => 229
  | .clrl => 230
  | .clrq => 231
  | .clrw => 232
  | .cmpb => 233
  | .cmpl => 234
  | .cmpw => 235
  | .cvtbl => 236
  | .cvtbw => 237
  | .cvtlb => 238
  | .cvtlw => 239
  | .cvtwb => 240
  | .cvtwl => 241
  | .decb => 242
  | .decl => 243
  | .decw => 244
  | .divb2 => 245
  | .divl2 => 246
  | .divw2 => 247
  | .divb3 => 248
  | .divl3 => 249
  | .divw3 => 250
  | .ediv => 251
  | .emul => 252
  | .incb => 253
  | .incl => 254
  | .incw => 255
  | .mcomb => 256
  | .mcoml => 257
  | .mcomw => 258
  | .mnegb => 259
  | .mnegl => 260
  | .mnegw => 261
  | .movb => 262
  | .movl => 263
  | .movq => 264
  | .movw => 265
  | .movzbw => 266
  | .movzbl => 267
  | .movzwl => 268
  | .mulb2 => 269
  | .mull2 => 270
  | .mulw2 => 271
  | .mulb3 => 272
  | .mull3 => 273
  | .mulw3 => 274
  | .pushl => 275
  | .rotl => 276
  | .sbwc => 277
  | .subb2 => 278
  | .subl2 => 279
  | .subw2 => 280
  | .subb3 => 281
  | .subl3 => 282
  | .subw3 => 283
  | .tstb => 284
  | .tstl => 285
  | .tstw => 286
  | .xorb2 => 287
  | .xorl2 => 288
  | .xorw2 => 289
  | .xorb3 => 290
  | .xorl3 => 291
  | .xorw3 => 292
  | .movab => 303
  | .moval => 304
  | .movaq => 305
  | .movaw => 306
  | .pushab => 307
  | .pushal => 308
  | .pushaq => 309
  | .pushaw => 310
  | .cmpv => 311
  | .cmpzv => 312
  | .extv => 313
  | .extzv => 314
  | .insv => 315
  | .ffc => 316
  | .ffs => 317
  | .acbb => 324
  | .acbl => 325
  | .acbw => 326
  | .aobleq => 327
  | .aoblss => 328
  | .bcc => 329
  | .bcs => 330
  | .beql => 331
  | .bgeq => 332
  | .bgtr => 333
  | .bgtru => 334
  | .bleq => 335
  | .blequ => 336
  | .blss => 337
  | .bneq => 338
  | .bvc => 339
  | .bvs => 340
  | .bbc => 341
  | .bbs => 342
  | .bbcc => 343
  | .bbcs => 344
  | .bbsc => 345
  | .bbss => 346
  | .bbcci => 347
  | .bbssi => 348
  | .blbc => 349
  | .blbs => 350
  | .brb => 351
  | .brw => 352
  | .bsbb => 353
  | .bsbw => 354
  | .caseb => 355
  | .casel => 356
  | .casew => 357
  | .jmp => 358
  | .jsb => 359
  | .rsb => 360
  | .sobgeq => 361
  | .sobgtr => 362
  | .callg => 373
  | .calls => 374
  | .ret => 375
  | .bicpsw => 382
  | .bispsw => 383
  | .bpt => 384
  | .halt => 385
  | .index => 386
  | .movpsl => 387
  | .nop => 388
  | .popr => 389
  | .pushr => 390
  | .xfc => 391
  | .insqhi => 401
  | .insqti => 402
  | .insque => 403
  | .remqhi => 404
  | .remqti => 405
  | .remque => 406
  | .cmpc3 => 413
  | .cmpc5 => 414
  | .locc => 415
  | .movc3 => 416
  | .movc5 => 417
  | .scanc => 418
  | .skpc => 419
  | .spanc => 420
  | .chme => 432
  | .chmk => 433
  | .chms => 434
  | .chmu => 435
  | .ldpctx => 436
  | .mfpr => 437
  | .mtpr => 438
  | .prober => 439
  | .probew => 440
  | .rei => 441
  | .svpctx => 442
  | .addd2 => 453
  | .addf2 => 454
  | .addg2 => 455
  | .addd3 => 456
  | .addf3 => 457
  | .addg3 => 458
  | .cmpd => 459
  | .cmpf => 460
  | .cmpg => 461
  | .cvtbd => 462
  | .cvtbf => 463
  | .cvtbg => 464
  | .cvtdb => 465
  | .cvtdf => 466
  | .cvtdl => 467
  | .cvtdw => 468
  | .cvtfb => 469
  | .cvtfd => 470
  | .cvtfg => 471
  | .cvtfl => 472
  | .cvtfw => 473
  | .cvtgb => 474
  | .cvtgf => 475
  | .cvtgl => 476
  | .cvtgw => 477
  | .cvtld => 478
  | .cvtlf => 479
  | .cvtlg => 480
  | .cvtwd => 481
  | .cvtwf => 482
  | .cvtwg => 483
  | .cvtrdl => 484
  | .cvtrfl => 485
  | .cvtrgl => 486
  | .divd2 => 487
  | .divf2 => 488
  | .divg2 => 489
  | .divd3 => 490
  | .divf3 => 491
  | .divg3 => 492
  | .mnegd => 493
  | .mnegf => 494
  | .mnegg => 495
  | .movd => 496
  | .movf => 497
  | .movg => 498
  | .muld2 => 499
  | .mulf2 => 500
  | .mulg2 => 501
  | .muld3 => 502
  | .mulf3 => 503
  | .mulg3 => 504
  | .subd2 => 505
  | .subf2 => 506
  | .subg2 => 507
  | .subd3 => 508
  | .subf3 => 509
  | .subg3 => 510
  | .tstd => 511
  | .tstf => 512
  | .tstg => 513
  | .addp4 => 522
  | .addp6 => 523
  | .ashp => 524
  | .cmpp3 => 525
  | .cmpp4 => 526
  | .crc => 527
  | .cvtlp => 528
  | .cvtpl => 529
  | .cvtps => 530
  | .cvtsp => 531
  | .cvtpt => 532
  | .cvttp => 533
  | .divp => 534
  | .editpc => 535
  | .matchc => 536
  | .movp => 537
  | .movtc => 538
  | .movtuc => 539
  | .mulp => 540
  | .subp4 => 541
  | .subp6 => 542

/-- The rows of a family, in the table's order. -/
def Family.rows : Family → List Instr
  | .integer =>
  [.adawi, .addb2, .addl2, .addw2, .addb3, .addl3, .addw3, .adwc,
   .ashl, .ashq, .bicb2, .bicl2, .bicw2, .bicb3, .bicl3, .bicw3,
   .bisb2, .bisl2, .bisw2, .bisb3, .bisl3, .bisw3, .bitb, .bitl,
   .bitw, .clrb, .clrl, .clrq, .clrw, .cmpb, .cmpl, .cmpw,
   .cvtbl, .cvtbw, .cvtlb, .cvtlw, .cvtwb, .cvtwl, .decb, .decl] ++
  [.decw, .divb2, .divl2, .divw2, .divb3, .divl3, .divw3, .ediv,
   .emul, .incb, .incl, .incw, .mcomb, .mcoml, .mcomw, .mnegb,
   .mnegl, .mnegw, .movb, .movl, .movq, .movw, .movzbw, .movzbl,
   .movzwl, .mulb2, .mull2, .mulw2, .mulb3, .mull3, .mulw3, .pushl,
   .rotl, .sbwc, .subb2, .subl2, .subw2, .subb3, .subl3, .subw3] ++
  [.tstb, .tstl, .tstw, .xorb2, .xorl2, .xorw2, .xorb3, .xorl3,
   .xorw3]
  | .addressField =>
  [.movab, .moval, .movaq, .movaw, .pushab, .pushal, .pushaq, .pushaw,
   .cmpv, .cmpzv, .extv, .extzv, .insv, .ffc, .ffs]
  | .control =>
  [.acbb, .acbl, .acbw, .aobleq, .aoblss, .bcc, .bcs, .beql,
   .bgeq, .bgtr, .bgtru, .bleq, .blequ, .blss, .bneq, .bvc,
   .bvs, .bbc, .bbs, .bbcc, .bbcs, .bbsc, .bbss, .bbcci,
   .bbssi, .blbc, .blbs, .brb, .brw, .bsbb, .bsbw, .caseb,
   .casel, .casew, .jmp, .jsb, .rsb, .sobgeq, .sobgtr]
  | .procedure =>
  [.callg, .calls, .ret]
  | .miscellaneous =>
  [.bicpsw, .bispsw, .bpt, .halt, .index, .movpsl, .nop, .popr,
   .pushr, .xfc]
  | .queue =>
  [.insqhi, .insqti, .insque, .remqhi, .remqti, .remque]
  | .characterString =>
  [.cmpc3, .cmpc5, .locc, .movc3, .movc5, .scanc, .skpc, .spanc]
  | .operatingSystem =>
  [.chme, .chmk, .chms, .chmu, .ldpctx, .mfpr, .mtpr, .prober,
   .probew, .rei, .svpctx]
  | .floating =>
  [.addd2, .addf2, .addg2, .addd3, .addf3, .addg3, .cmpd, .cmpf,
   .cmpg, .cvtbd, .cvtbf, .cvtbg, .cvtdb, .cvtdf, .cvtdl, .cvtdw,
   .cvtfb, .cvtfd, .cvtfg, .cvtfl, .cvtfw, .cvtgb, .cvtgf, .cvtgl,
   .cvtgw, .cvtld, .cvtlf, .cvtlg, .cvtwd, .cvtwf, .cvtwg, .cvtrdl,
   .cvtrfl, .cvtrgl, .divd2, .divf2, .divg2, .divd3, .divf3, .divg3] ++
  [.mnegd, .mnegf, .mnegg, .movd, .movf, .movg, .muld2, .mulf2,
   .mulg2, .muld3, .mulf3, .mulg3, .subd2, .subf2, .subg2, .subd3,
   .subf3, .subg3, .tstd, .tstf, .tstg]
  | .emulated =>
  [.addp4, .addp6, .ashp, .cmpp3, .cmpp4, .crc, .cvtlp, .cvtpl,
   .cvtps, .cvtsp, .cvtpt, .cvttp, .divp, .editpc, .matchc, .movp,
   .movtc, .movtuc, .mulp, .subp4, .subp6]

/-- The 263 rows of the opcode table in its order (R98). -/
def allRows : List Instr :=
  Family.rows .integer ++ Family.rows .addressField ++ Family.rows .control ++ Family.rows .procedure ++ Family.rows .miscellaneous ++ Family.rows .queue ++ Family.rows .characterString ++ Family.rows .operatingSystem ++ Family.rows .floating ++ Family.rows .emulated

/-- R703, R96: `row_of` maps a mnemonic or a further name of a row to the row. -/
def rowOf (m : String) : Option Instr :=
  allRows.find? fun row => row.name == m || row.furtherNames.contains m

end Sys2Proof
end

