-- ==== Sys2Proof/Decode.lean ====
section
/-! DEFINITION. The decoder of an instruction's bytes (R84, R86, R93 to R95) and, after it, the encoder.
The layout of the bytes is the spec's general knowledge: PRESUMED (log entry 5). No cost rule reads it (R84). -/

namespace Sys2Proof

/-! ### Opcodes -/

/-- The one-byte opcode map, transcribed from the table of R93: the row of the high four bits, in the order of the
low four. -/
def opcodeMapRow : Nat → List (Option Instr)
  | 0 =>
    [some .halt, some .nop, some .rei, some .bpt, some .ret, some .rsb, some .ldpctx, some .svpctx,
     some .cvtps, some .cvtsp, some .index, some .crc, some .prober, some .probew, some .insque, some .remque]
  | 1 =>
    [some .bsbb, some .brb, some .bneq, some .beql, some .bgtr, some .bleq, some .jsb, some .jmp,
     some .bgeq, some .blss, some .bgtru, some .blequ, some .bvc, some .bvs, some .bcc, some .bcs]
  | 2 =>
    [some .addp4, some .addp6, some .subp4, some .subp6, some .cvtpt, some .mulp, some .cvttp, some .divp,
     some .movc3, some .cmpc3, some .scanc, some .spanc, some .movc5, some .cmpc5, some .movtc, some .movtuc]
  | 3 =>
    [some .bsbw, some .brw, some .cvtwl, some .cvtwb, some .movp, some .cmpp3, some .cvtpl, some .cmpp4,
     some .editpc, some .matchc, some .locc, some .skpc, some .movzwl, some .acbw, some .movaw, some .pushaw]
  | 4 =>
    [some .addf2, some .addf3, some .subf2, some .subf3, some .mulf2, some .mulf3, some .divf2, some .divf3,
     some .cvtfb, some .cvtfw, some .cvtfl, some .cvtrfl, some .cvtbf, some .cvtwf, some .cvtlf, none]
  | 5 =>
    [some .movf, some .cmpf, some .mnegf, some .tstf, none, none, some .cvtfd, none,
     some .adawi, none, none, none, some .insqhi, some .insqti, some .remqhi, some .remqti]
  | 6 =>
    [some .addd2, some .addd3, some .subd2, some .subd3, some .muld2, some .muld3, some .divd2, some .divd3,
     some .cvtdb, some .cvtdw, some .cvtdl, some .cvtrdl, some .cvtbd, some .cvtwd, some .cvtld, none]
  | 7 =>
    [some .movd, some .cmpd, some .mnegd, some .tstd, none, none, some .cvtdf, none,
     some .ashl, some .ashq, some .emul, some .ediv, some .clrq, some .movq, some .movaq, some .pushaq]
  | 8 =>
    [some .addb2, some .addb3, some .subb2, some .subb3, some .mulb2, some .mulb3, some .divb2, some .divb3,
     some .bisb2, some .bisb3, some .bicb2, some .bicb3, some .xorb2, some .xorb3, some .mnegb, some .caseb]
  | 9 =>
    [some .movb, some .cmpb, some .mcomb, some .bitb, some .clrb, some .tstb, some .incb, some .decb,
     some .cvtbl, some .cvtbw, some .movzbw, some .movzbl, some .rotl, some .acbb, some .movab, some .pushab]
  | 10 =>
    [some .addw2, some .addw3, some .subw2, some .subw3, some .mulw2, some .mulw3, some .divw2, some .divw3,
     some .bisw2, some .bisw3, some .bicw2, some .bicw3, some .xorw2, some .xorw3, some .mnegw, some .casew]
  | 11 =>
    [some .movw, some .cmpw, some .mcomw, some .bitw, some .clrw, some .tstw, some .incw, some .decw,
     some .bispsw, some .bicpsw, some .popr, some .pushr, some .chmk, some .chme, some .chms, some .chmu]
  | 12 =>
    [some .addl2, some .addl3, some .subl2, some .subl3, some .mull2, some .mull3, some .divl2, some .divl3,
     some .bisl2, some .bisl3, some .bicl2, some .bicl3, some .xorl2, some .xorl3, some .mnegl, some .casel]
  | 13 =>
    [some .movl, some .cmpl, some .mcoml, some .bitl, some .clrl, some .tstl, some .incl, some .decl,
     some .adwc, some .sbwc, some .mtpr, some .mfpr, some .movpsl, some .pushl, some .moval, some .pushal]
  | 14 =>
    [some .bbs, some .bbc, some .bbss, some .bbcs, some .bbsc, some .bbcc, some .bbssi, some .bbcci,
     some .blbs, some .blbc, some .ffs, some .ffc, some .cmpv, some .cmpzv, some .extv, some .extzv]
  | 15 =>
    [some .insv, some .acbl, some .aoblss, some .aobleq, some .sobgeq, some .sobgtr, some .cvtlb, some .cvtlw,
     some .ashp, some .cvtlp, some .callg, some .calls, some .xfc, none, none, none]
  | _ => []

/-- R95, `op1_table`: the row of a one-byte opcode, `none` for the values with no row (R94). -/
def op1Table (b0 : Byte) : Option Instr :=
  ((opcodeMapRow (b0.toNat / 16))[b0.toNat % 16]?).join

/-- The second-byte map after a first byte `FD`, transcribed from R93. -/
def secondByteMap : List (Byte × Instr) :=
  [(0x33#8, .cvtgf), (0x40#8, .addg2), (0x41#8, .addg3), (0x42#8, .subg2), (0x43#8, .subg3), (0x44#8, .mulg2),
   (0x45#8, .mulg3), (0x46#8, .divg2), (0x47#8, .divg3), (0x48#8, .cvtgb), (0x49#8, .cvtgw), (0x4A#8, .cvtgl),
   (0x4B#8, .cvtrgl), (0x4C#8, .cvtbg), (0x4D#8, .cvtwg), (0x4E#8, .cvtlg), (0x50#8, .movg), (0x51#8, .cmpg),
   (0x52#8, .mnegg), (0x53#8, .tstg), (0x99#8, .cvtfg)]

/-- R95, `op2_table`: the row of a second byte after `FD`. -/
def op2Table (b1 : Byte) : Option Instr :=
  (secondByteMap.find? fun e => e.1 == b1).map Prod.snd

/-- R95: the row of an instruction's first bytes, and the bytes after its opcode. -/
def decodeOpcode : List Byte → Except DecodeError (Instr × List Byte)
  | [] => .error .truncated
  | b0 :: rest =>
    if b0 = 0xFD#8 then
      match rest with
      | [] => .error .truncated
      | b1 :: rest' =>
        match op2Table b1 with
        | some m => .ok (m, rest')
        | none => .error (.noRow (.fd b1))
    else
      match op1Table b0 with
      | some m => .ok (m, rest)
      | none => .error (.noRow (.one b0))

/-! ### Operands (R84, R86) -/

/-- A one-byte extension. -/
def ext8 (mk : BitVec 8 → BaseMode) : List Byte → Except DecodeError (BaseMode × List Byte)
  | b0 :: rest => .ok (mk b0, rest)
  | _ => .error .truncated

/-- A two-byte extension, little-endian (R84). -/
def ext16 (mk : BitVec 16 → BaseMode) : List Byte → Except DecodeError (BaseMode × List Byte)
  | b0 :: b1 :: rest => .ok (mk (b1 ++ b0), rest)
  | _ => .error .truncated

/-- A four-byte extension, little-endian. -/
def ext32 (mk : BitVec 32 → BaseMode) : List Byte → Except DecodeError (BaseMode × List Byte)
  | b0 :: b1 :: b2 :: b3 :: rest => .ok (mk (b3 ++ b2 ++ b1 ++ b0), rest)
  | _ => .error .truncated

/-- An eight-byte extension, little-endian. -/
def ext64 (mk : BitVec 64 → BaseMode) : List Byte → Except DecodeError (BaseMode × List Byte)
  | b0 :: b1 :: b2 :: b3 :: b4 :: b5 :: b6 :: b7 :: rest =>
    .ok (mk (b7 ++ b6 ++ b5 ++ b4 ++ b3 ++ b2 ++ b1 ++ b0), rest)
  | _ => .error .truncated

/-- An immediate constant, as long as the operand's data type (R86: 1, 2, 4, 8 for b, w, l or f, q or d or g). -/
def extImm : DType → List Byte → Except DecodeError (BaseMode × List Byte)
  | .b => ext8 fun x => .immediate (.byte x)
  | .w => ext16 fun x => .immediate (.word x)
  | .l => ext32 fun x => .immediate (.long x)
  | .f => ext32 fun x => .immediate (.long x)
  | .q => ext64 fun x => .immediate (.quad x)
  | .d => ext64 fun x => .immediate (.quad x)
  | .g => ext64 fun x => .immediate (.quad x)

/-- The specifier byte of a base mode, `mode` its high four bits and `rn` its low four, and the extension after it
(the table of R86). -/
def parseMode (dt : DType) (b : Byte) (rest : List Byte) : Except DecodeError (BaseMode × List Byte) :=
  let rn : Reg := b.extractLsb' 0 4
  match b.toNat / 16 with
  | 4 => .error .indexOfIndex
  | 5 => .ok (.register rn, rest)
  | 6 => .ok (.registerDef rn, rest)
  | 7 => .ok (.autodec rn, rest)
  | 8 => if rn = 15#4 then extImm dt rest else .ok (.autoinc rn, rest)
  | 9 => if rn = 15#4 then ext32 .absolute rest else .ok (.autoincDef rn, rest)
  | 10 => ext8 (.disp8 rn) rest
  | 11 => ext8 (.dispDef8 rn) rest
  | 12 => ext16 (.disp16 rn) rest
  | 13 => ext16 (.dispDef16 rn) rest
  | 14 => ext32 (.disp32 rn) rest
  | 15 => ext32 (.dispDef32 rn) rest
  | _ => .ok (.literal (b.extractLsb' 0 6), rest)

/-- A specifier of a base mode. -/
def parseBase (dt : DType) : List Byte → Except DecodeError (BaseMode × List Byte)
  | [] => .error .truncated
  | b :: rest => parseMode dt b rest

/-- An operand specifier: an index prefix byte (mode 4) comes before the specifier byte of the base mode (R84). -/
def parseSpec (dt : DType) : List Byte → Except DecodeError (Specifier × List Byte)
  | [] => .error .truncated
  | b :: rest =>
    if b.toNat / 16 = 4 then
      match parseBase dt rest with
      | .ok (base, rest') => .ok (.indexed (b.extractLsb' 0 4) base, rest')
      | .error e => .error e
    else
      match parseMode dt b rest with
      | .ok (base, rest') => .ok (.plain base, rest')
      | .error e => .error e

/-- The constant of a short literal or immediate operand (R86); the spec gives an index on a constant no meaning (R85). -/
def constantOf : Specifier → Option Nat
  | .plain (.literal n) => some n.toNat
  | .plain (.immediate (.byte x)) => some x.toNat
  | .plain (.immediate (.word x)) => some x.toNat
  | .plain (.immediate (.long x)) => some x.toNat
  | .plain (.immediate (.quad x)) => some x.toNat
  | .plain _ => none
  | .indexed _ _ => none

/-- The length in bits of an operand's data type (R86: 1, 2, 4, 8 bytes for b, w, l or f, q or d or g). -/
def DType.bits : DType → Nat
  | .b => 8
  | .w => 16
  | .l => 32
  | .f => 32
  | .q => 64
  | .d => 64
  | .g => 64

/-- R91: how many words a CASEx list has after its limit operand, `limit + 1`; PRESUMED (log entry 21). A constant limit is read
from the instruction; the value of a limit in a register or in memory, which the model does not hold, is the input `limit` of the
instance, of which an operand of type b or w is the low part (log entry 8). There is no list after a displacement. -/
def Operand.listLength (limit : BitVec 32) (d : OperandDecl) : Operand → Nat
  | .spec sp => (constantOf sp).getD (limit.toNat % 2 ^ d.dtype.bits) + 1
  | .displ8 _ => 0
  | .displ16 _ => 0
  | .displList _ => 0

/-- A given number of word displacements. -/
def takeWords : Nat → List Byte → Except DecodeError (List (BitVec 16) × List Byte)
  | 0, bytes => .ok ([], bytes)
  | n + 1, b0 :: b1 :: rest =>
    match takeWords n rest with
    | .ok (ds, rest') => .ok ((b1 ++ b0) :: ds, rest')
    | .error e => .error e
  | _ + 1, _ => .error .truncated

/-- A CASEx displacement list of a given length (R91). -/
def parseList (len : Nat) (bytes : List Byte) : Except DecodeError (Operand × List Byte) :=
  match takeWords len bytes with
  | .ok (ds, rest) => .ok (.displList ds, rest)
  | .error e => .error e

/-- A branch displacement (R91): one byte, or two bytes little-endian, or a list of words. -/
def parseDispl (len : Nat) (dt : DType) (isList : Bool) (bytes : List Byte) :
    Except DecodeError (Operand × List Byte) :=
  if isList then parseList len bytes
  else
    match dt, bytes with
    | .b, b0 :: rest => .ok (.displ8 b0, rest)
    | .w, b0 :: b1 :: rest => .ok (.displ16 (b1 ++ b0), rest)
    | _, _ => .error .truncated

/-- One operand of a row's list (R83); `len` is the length that the operand before it gives a displacement list. -/
def parseOperand (len : Nat) (d : OperandDecl) (bytes : List Byte) : Except DecodeError (Operand × List Byte) :=
  if d.access = .b then parseDispl len d.dtype d.isList bytes
  else
    match parseSpec d.dtype bytes with
    | .ok (sp, rest) => .ok (.spec sp, rest)
    | .error e => .error e

/-- The operands of a row, in the order of its list; `limit` is the value of a limit that is no constant (R91). -/
def parseOperands (limit : BitVec 32) : Nat → List OperandDecl → List Byte → Except DecodeError (List Operand × List Byte)
  | _, [], bytes => .ok ([], bytes)
  | len, d :: ds, bytes =>
    match parseOperand len d bytes with
    | .error e => .error e
    | .ok (o, rest) =>
      match parseOperands limit (o.listLength limit d) ds rest with
      | .error e => .error e
      | .ok (os, rest') => .ok (o :: os, rest')

/-- The instruction at the head of the bytes and the bytes after it, or why there is none. Total: an opcode with no row
is rejected by its value (R94). `limit` is the value of the limit operand of a CASEx instance whose limit is no constant: an input of
the instance, as the dynamic facts are, 0 where it is not given (log entry 8). Nothing else reads it. -/
def decode (bytes : List Byte) (limit : BitVec 32 := 0#32) : Except DecodeError (CodedInstr × List Byte) :=
  match decodeOpcode bytes with
  | .error e => .error e
  | .ok (row, rest) =>
    match parseOperands limit 0 row.operandDecls rest with
    | .error e => .error e
    | .ok (os, rest') => .ok (⟨row, os⟩, rest')

/-- How many bytes `decodeTableWord` and `State.withFetchWord` lay out at least: more than the longest instruction without a
displacement list has (two opcode bytes and six specifiers of at most ten bytes), and more than the longest CASEx whose limit
is a short literal has (an opcode byte, three specifiers and 64 words). -/
def fetchBytes : Nat := 160

/-- The bytes of an instruction whose low `nbits` bits are `w` and whose other bits are 0, the first byte the least
significant (R98: for stream bytes `b0`, `b1` the number is `b1 * 256 + b0`). -/
def wordBytes (nbits w : Nat) : List Byte :=
  (List.range (fetchBytes + nbits / 8)).map fun k => BitVec.ofNat 8 ((w % 2 ^ nbits) / 256 ^ k)

/-- The instruction that the decoder reads from the bits `w` of an opcode-table row. -/
def decodeTableWord (nbits w : Nat) : Option Instr :=
  match decode (wordBytes nbits w) with
  | .ok (ci, _) => some ci.row
  | .error _ => none

/-! ### The encoder -/

/-- A specifier byte (R84): the mode in its high four bits, the register number in its low four. -/
def specByte (mode : BitVec 4) (rn : Reg) : Byte := mode ++ rn

/-- The bytes of a word, the low byte first (R84). -/
def bytes16 (x : BitVec 16) : List Byte := [x.extractLsb' 0 8, x.extractLsb' 8 8]

/-- The bytes of a longword, the low byte first. -/
def bytes32 (x : BitVec 32) : List Byte :=
  [x.extractLsb' 0 8, x.extractLsb' 8 8, x.extractLsb' 16 8, x.extractLsb' 24 8]

/-- The bytes of a quadword, the low byte first. -/
def bytes64 (x : BitVec 64) : List Byte :=
  [x.extractLsb' 0 8, x.extractLsb' 8 8, x.extractLsb' 16 8, x.extractLsb' 24 8,
   x.extractLsb' 32 8, x.extractLsb' 40 8, x.extractLsb' 48 8, x.extractLsb' 56 8]

/-- The bytes of an immediate constant. -/
def Imm.encode : Imm → List Byte
  | .byte x => [x]
  | .word x => bytes16 x
  | .long x => bytes32 x
  | .quad x => bytes64 x

/-- The bytes of a base mode: its specifier byte and its extension (the table of R86). -/
def BaseMode.encode : BaseMode → List Byte
  | .literal n => [0#2 ++ n]
  | .register rn => [specByte 5#4 rn]
  | .registerDef rn => [specByte 6#4 rn]
  | .autodec rn => [specByte 7#4 rn]
  | .autoinc rn => [specByte 8#4 rn]
  | .immediate x => specByte 8#4 15#4 :: x.encode
  | .autoincDef rn => [specByte 9#4 rn]
  | .absolute addr => specByte 9#4 15#4 :: bytes32 addr
  | .disp8 rn d => [specByte 10#4 rn, d]
  | .dispDef8 rn d => [specByte 11#4 rn, d]
  | .disp16 rn d => specByte 12#4 rn :: bytes16 d
  | .dispDef16 rn d => specByte 13#4 rn :: bytes16 d
  | .disp32 rn d => specByte 14#4 rn :: bytes32 d
  | .dispDef32 rn d => specByte 15#4 rn :: bytes32 d

/-- The bytes of an operand specifier: the index prefix, mode 4, before the base mode (R84). -/
def Specifier.encode : Specifier → List Byte
  | .plain base => base.encode
  | .indexed rx base => specByte 4#4 rx :: base.encode

/-- The bytes of an operand. -/
def Operand.encode : Operand → List Byte
  | .spec sp => sp.encode
  | .displ8 d => [d]
  | .displ16 d => bytes16 d
  | .displList ds => ds.flatMap bytes16

/-- The bytes of an opcode: `FD` first (R82). -/
def Opcode.encode : Opcode → List Byte
  | .one b0 => [b0]
  | .fd b1 => [0xFD#8, b1]

/-- The bytes of an instruction (R84): the opcode, then each operand in list order. -/
def CodedInstr.encode (ci : CodedInstr) : List Byte :=
  ci.row.opcode.encode ++ ci.operands.flatMap Operand.encode

end Sys2Proof
end

