-- ==== Sys2Proof/Machine/Cost.lean ====
section
/-! DEFINITION. The arithmetic of costs: addition and order componentwise (R8), evaluation in cycles (R10), and the draw of a
member of an interval (R11). -/

namespace Sys2Proof

/-- R8: addition is componentwise. -/
def Cost.add (a b : Cost) : Cost where
  c := a.c + b.c
  r := a.r + b.r
  w := a.w + b.w
  rst := a.rst + b.rst
  pfl := a.pfl + b.pfl
  mpr := a.mpr + b.mpr

/-- R8: the order is componentwise. -/
abbrev Cost.le (a b : Cost) : Prop :=
  a.c ≤ b.c ∧ a.r ≤ b.r ∧ a.w ≤ b.w ∧ a.rst ≤ b.rst ∧ a.pfl ≤ b.pfl ∧ a.mpr ≤ b.mpr

/-- The sum of costs, from `Cost()`. -/
def Cost.sum : List Cost → Cost
  | [] => {}
  | v :: vs => v.add (Cost.sum vs)

/-- R10: the cycles of a cost under chosen values of the five delays. -/
def Cost.eval (d : Delays) (v : Cost) : Nat :=
  v.c + v.r * d.tR + v.w * d.tW + v.rst * d.rst + v.pfl * d.pfl + v.mpr * d.mpr

/-- R11: `v` is a member of `draw(lo, hi)`, every cost between the ends componentwise. -/
abbrev Cost.InDraw (lo hi v : Cost) : Prop := lo.le v ∧ v.le hi

/-- The member of `draw(lo, hi)` nearest to `v` componentwise: every choice `v` gives a member, and a member gives
itself, so that every member can be drawn (R11). -/
def Cost.clamp (lo hi v : Cost) : Cost where
  c := max lo.c (min hi.c v.c)
  r := max lo.r (min hi.r v.r)
  w := max lo.w (min hi.w v.w)
  rst := max lo.rst (min hi.rst v.rst)
  pfl := max lo.pfl (min hi.pfl v.pfl)
  mpr := max lo.mpr (min hi.mpr v.mpr)

end Sys2Proof
end

