-- ==== Sys2Proof/Machine/Operands.lean ====
section
/-! DEFINITION. What the model reads of operands: the adders of unaligned operands (R61, R62), the classification of a
specifier among the twenty addressing-mode rows (R85), the I Box table that a specifier would look up (R88, R89), the
count of a register mask (R370, R380), and the stack of CHMx (R607). -/

namespace Sys2Proof.Machine

open Sys2Proof

/-! ### Unaligned operands -/

/-- R61: an unaligned word or longword costs one reference more, a quadword two. -/
def lenUnits : Len → Nat
  | .w => 1
  | .l => 1
  | .q => 2

/-- R62: `adders(f)`, added by every instruction rule. -/
def adders (f : Facts) : Cost where
  r := (f.unalignedReads.map lenUnits).sum
  w := (f.unalignedWrites.map lenUnits).sum

/-- R62: the entry an operand of a data type gives; f_floating counts as a longword, d_floating and g_floating as a
quadword, and a byte operand gives none. -/
def lenOf : DType → Option Len
  | .b => none
  | .w => some .w
  | .l => some .l
  | .f => some .l
  | .q => some .q
  | .d => some .q
  | .g => some .q

/-- The addressing mode of a specifier's base. -/
def kindOf : BaseMode → AddrKind
  | .literal _ => .shortLiteral
  | .register _ => .register
  | .registerDef _ => .registerDef
  | .autodec _ => .autodecrement
  | .autoinc _ => .autoincrement
  | .immediate _ => .immediate
  | .autoincDef _ => .autoincDef
  | .absolute _ => .absolute
  | .disp8 _ _ => .displacement
  | .disp16 _ _ => .displacement
  | .disp32 _ _ => .displacement
  | .dispDef8 _ _ => .displacementDef
  | .dispDef16 _ _ => .displacementDef
  | .dispDef32 _ _ => .displacementDef

/-- R85: the addressing-mode row of a specifier. -/
def addrRow : Specifier → AddrRow
  | .plain base => ⟨kindOf base, false⟩
  | .indexed _ base => ⟨kindOf base, true⟩

/-- The number of a mode among the rows of R85. -/
def kindNumber : AddrKind → Nat
  | .shortLiteral => 1
  | .register => 2
  | .registerDef => 3
  | .autodecrement => 4
  | .autoincrement => 5
  | .immediate => 6
  | .autoincDef => 7
  | .absolute => 8
  | .displacement => 9
  | .displacementDef => 10

/-- The number of a row of R85, 1 to 20. -/
def rowNumber (a : AddrRow) : Nat := kindNumber a.kind + if a.indexed then 10 else 0

/-- R85: whether an operand is written in register mode, row 2: "the only thing read from an operand's addressing mode". -/
def inRegister (sp : Specifier) : Bool := rowNumber (addrRow sp) == 2

/-- R62: whether an operand lies in memory; registers, literals and immediate constants give no adder. That an immediate
constant gives none is DEDUCED (log entry 12), safe. That the indexed rows without syntax, an index on a literal, a register or
an immediate constant (R85, rows 11, 12 and 16), give none is a DESIGN CHOICE (log entry 22), safe: the spec gives them no
meaning in the cost model. -/
def inMemory (sp : Specifier) : Bool :=
  match (addrRow sp).kind with
  | .shortLiteral => false
  | .register => false
  | .immediate => false
  | .registerDef => true
  | .autodecrement => true
  | .autoincrement => true
  | .autoincDef => true
  | .absolute => true
  | .displacement => true
  | .displacementDef => true

/-- A specifier operand of an instance, with the entry of its row's list and the address where it lies if it lies in
memory: what the caller knows of it (D13). -/
structure PlacedOperand where
  decl : OperandDecl
  spec : Specifier
  addr : Nat
  deriving DecidableEq, Repr

/-- The entry of an operand that lies unaligned in memory, by a predicate `unaligned(address, length)` (D13). -/
def unalignedEntry (unaligned : Nat → Len → Bool) (o : PlacedOperand) : Option Len :=
  match lenOf o.decl.dtype with
  | some len => if inMemory o.spec && unaligned o.addr len then some len else none
  | none => none

/-- R62: an unaligned operand of access `r` or `m` contributes one entry to `unaligned_reads`. -/
def unalignedReads (unaligned : Nat → Len → Bool) (os : List PlacedOperand) : List Len :=
  (os.filter fun o => o.decl.access == .r || o.decl.access == .m).filterMap (unalignedEntry unaligned)

/-- R62: an unaligned operand of access `w` or `m` contributes one entry to `unaligned_writes`. -/
def unalignedWrites (unaligned : Nat → Len → Bool) (os : List PlacedOperand) : List Len :=
  (os.filter fun o => o.decl.access == .w || o.decl.access == .m).filterMap (unalignedEntry unaligned)

/-- The two lists that the caller gives an event for its specifier operands, at the open predicate of Config. -/
def callerUnaligned (os : List PlacedOperand) (f : Facts) : Facts :=
  { f with
    unalignedReads := unalignedReads Config.unaligned os
    unalignedWrites := unalignedWrites Config.unaligned os }

/-! ### The I Box tables -/

/-- The column of the I Box tables for an access type (R87, R88); a branch displacement is no specifier (C12). -/
def columnOf : Access → Option SpecColumn
  | .r => some .r
  | .a => some .av
  | .v => some .av
  | .m => some .m
  | .w => some .w
  | .b => none

/-- The length class of a data type (R65): f_floating with byte, word and long, d_floating and g_floating with quad. -/
def lenClassOf : DType → LenClass
  | .b => .bwl
  | .w => .bwl
  | .l => .bwl
  | .f => .bwl
  | .q => .q
  | .d => .q
  | .g => .q

/-- R89: the cell of the I Box specifier tables that an operand would look up. It is not added to `acc` (D11). -/
def iboxSpecifierTime (t : IboxTimes) (d : OperandDecl) (sp : Specifier) : Option Nat :=
  (columnOf d.access).bind fun col => t.specifier (addrRow sp) col (lenClassOf d.dtype)

/-! ### What an instance's own bytes say of its facts -/

/-- The number of set bits of a 16-bit register mask, `mask.rw` (R370, R380). That bit 15 of a mask of PUSHR or POPR counts like the
others is a DESIGN CHOICE (log entry 23): the source does not say which bits name registers, and R380 gives bits 14:0 as general
knowledge only. -/
def maskCount (mask : BitVec 16) : Nat :=
  (List.range 16).countP fun k => mask.getLsbD k

/-- The specifier operand of an instance that has a given name in its row's list. -/
def operandNamed (name : String) (ci : CodedInstr) : Option Specifier :=
  ((ci.row.operandDecls.zip ci.operands).find? fun e => e.1.name == name).bind fun e =>
    match e.2 with
    | .spec sp => some sp
    | .displ8 _ => none
    | .displ16 _ => none
    | .displList _ => none

/-- The field operand of an instance, `base.vb` (R300). -/
def fieldOperand (ci : CodedInstr) : Option Specifier :=
  ((ci.row.operandDecls.zip ci.operands).find? fun e => e.1.access == .v).bind fun e =>
    match e.2 with
    | .spec sp => some sp
    | .displ8 _ => none
    | .displ16 _ => none
    | .displList _ => none

/-! ### The stack of CHMx -/

/-- The four modes, most privileged first (R614: the numbering is the spec's general knowledge; PRESUMED, log entry 13). -/
inductive Mode where
  | kernel | executive | supervisor | user
  deriving DecidableEq, Repr

/-- The number of a mode (R38: 0 = kernel, 1 = executive, 2 = supervisor, 3 = user). -/
def modeNumber : Mode → Nat
  | .kernel => 0
  | .executive => 1
  | .supervisor => 2
  | .user => 3

/-- R607: `MINU`, the minimum of two modes as unsigned numbers. -/
def minu (x y : Mode) : Mode := if modeNumber x ≤ modeNumber y then x else y

/-- The mode that a CHMx mnemonic names by its last letter (R607). -/
def chmMode (i : Instr) : Option Mode :=
  if i = .chmk then some .kernel
  else if i = .chme then some .executive
  else if i = .chms then some .supervisor
  else if i = .chmu then some .user
  else none

/-- R607: the mode `y = MINU(x, PSL<current_mode>)` whose stack a CHMx instance writes. No cost depends on it, and the
model holds no mode (D25). -/
def chmStack (i : Instr) (current : Mode) : Option Mode := (chmMode i).map fun x => minu x current

end Sys2Proof.Machine
end

