-- ==== Sys2Proof/Machine/Ops.lean ====
section
/-! DEFINITION. The shared operations of a step: `charge`, `draw` and `refuse` (R11, R17, R703, R705), the rows whose cell is
`tbd` (R450), and the three events that are no instruction (R600 to R602). -/

namespace Sys2Proof.Machine

open Sys2Proof

/-- What a cost rule does with an event (R17): `charge(draw(lo, hi) + extra)`, or `refuse(why)`. A step performs exactly
one of the two (R703). -/
inductive Charge where
  | draw (lo hi extra : Cost)
  | refuse (why : Reason)
  deriving DecidableEq, Repr

/-- A cost rule reads the parameters and the dynamic facts of the event and nothing else (R14). -/
abbrev Rule := Params → Facts → Charge

/-- `charge(v + adders(f))`: a fixed cell, whose draw has one member (R11). -/
def fixed (v : Cost) (f : Facts) : Charge := .draw v v (adders f)

/-- `charge(draw(lo, hi) + adders(f))`: a range cell. -/
def ranged (lo hi : Cost) (f : Facts) : Charge := .draw lo hi (adders f)

/-- The value of the parameter `tbd_cost` at a row (R13, D8). -/
def tbdCostOf (p : Params) (m : Instr) : Option (Cost × Cost) :=
  (p.tbdCost.find? fun e => e.row == m).map fun e => (e.lo, e.hi)

/-- R450: a row whose cell is `tbd` charges a draw from the supplied interval, and is refused when there is none. -/
def tbdCell (m : Instr) (p : Params) (f : Facts) : Charge :=
  match tbdCostOf p m with
  | none => .refuse (.tbd m)
  | some (lo, hi) => ranged lo hi f

/-- `charge(v)` (R703): `acc` grows by `v` and the step goes on to the next event. -/
def State.charge (s : State) (v : Cost) : State := { s with acc := s.acc.add v, pos := s.pos + 1 }

/-- `refuse(why)` (R705): `refused` is set, `acc` and `pos` stay as they are. -/
def State.refuse (s : State) (why : Reason) : State := { s with refused := some why }

/-- The facts of an entry; the events that are no instruction have none. -/
def Entry.facts (e : Entry) : Facts :=
  match e.event with
  | .instr _ f => f
  | .hwInterrupt => {}
  | .swInterrupt => {}
  | .exception => {}

/-- A charge or a refusal on a state, the member of the draw chosen by `pick` (R11, R702 (c)). -/
def applyCharge (pick : Cost) (s : State) : Charge → Host.Outcome State Fault Refusal
  | .draw lo hi extra =>
    if lo.le hi then .next (s.charge ((Cost.clamp lo hi pick).add extra)) else .fault (.emptyDraw lo hi)
  | .refuse why => .next (s.refuse why)

/-- The entry the next step consumes, or why there is no step (R703: `step(s)` requires `refused = none` and
`pos < length(trace)`). -/
def runEntry (k : Entry → Host.Outcome State Fault Refusal) (s : State) : Host.Outcome State Fault Refusal :=
  match s.refused with
  | some why => .refused (.runRefused why)
  | none =>
    match s.trace[s.pos]? with
    | none => .fault .traceEnded
    | some e => k e

/-- A cost rule applied to the event at `pos` (R703). -/
def runRule (rule : Rule) (s : State) : Host.Outcome State Fault Refusal :=
  runEntry (fun e => applyCharge e.pick s (rule s.params e.facts)) s

/-- R600: "initiate hardware interrupt 22+3r+2w". -/
def hwInterruptRule : Rule := fun _ _ => .draw { c := 22, r := 3, w := 2 } { c := 22, r := 3, w := 2 } {}

/-- R601: "initiate software interrupt 21+2r+2w". -/
def swInterruptRule : Rule := fun _ _ => .draw { c := 21, r := 2, w := 2 } { c := 21, r := 2, w := 2 } {}

/-- R602: "initiate exception 28+2r+2w - 50+2r+8w", a draw that adds no adders. -/
def exceptionRule : Rule := fun _ _ => .draw { c := 28, r := 2, w := 2 } { c := 50, r := 2, w := 8 } {}

/-- Initiating a hardware interrupt (R600, R604): entry only. -/
def initiateHwInterrupt (s : State) : Host.Outcome State Fault Refusal := runRule hwInterruptRule s

/-- Initiating a software interrupt (R601, R604): entry only. -/
def initiateSwInterrupt (s : State) : Host.Outcome State Fault Refusal := runRule swInterruptRule s

/-- Taking an exception (R602, R604): the entry changes `acc` and `pos` only (R609). It is shared by the `Exception` event
and by the rows whose cell is the word "exception" (R603). -/
def initiateException (s : State) : Host.Outcome State Fault Refusal := runRule exceptionRule s

/-- The return from an exception (R608, R441): the cost rule of REI, which changes nothing else. -/
def returnRule : Rule := fun _ f => ranged { c := 16 } { c := 21 } f

end Sys2Proof.Machine
end

