-- ==== Sys2Proof/Machine/AddressField.lean ====
section
/-! DEFINITION. Address instructions and variable length bit field instructions (R300 to R317): "v = reg" and "v = mem" are the fact `v_in_reg` (R300), and every "v = mem" cell is a range (R301).
Each row has its cost rule, from the rule's pseudocode, and its meaning, that rule applied to the event at `pos`. -/

namespace Sys2Proof.Machine

open Sys2Proof

/-- R303: the cost rule of `MOVAB`, cell "1". -/
def ruleMovab : Rule := fun _ f => fixed { c := 1 } f

/-- R303: `MOVAB`. -/
def execMovab (s : State) : Host.Outcome State Fault Refusal := runRule ruleMovab s

/-- R304: the cost rule of `MOVAL`, cell "1". -/
def ruleMoval : Rule := fun _ f => fixed { c := 1 } f

/-- R304: `MOVAL`. -/
def execMoval (s : State) : Host.Outcome State Fault Refusal := runRule ruleMoval s

/-- R305: the cost rule of `MOVAQ`, cell "1". -/
def ruleMovaq : Rule := fun _ f => fixed { c := 1 } f

/-- R305: `MOVAQ`. -/
def execMovaq (s : State) : Host.Outcome State Fault Refusal := runRule ruleMovaq s

/-- R306: the cost rule of `MOVAW`, cell "1". -/
def ruleMovaw : Rule := fun _ f => fixed { c := 1 } f

/-- R306: `MOVAW`. -/
def execMovaw (s : State) : Host.Outcome State Fault Refusal := runRule ruleMovaw s

/-- R307: the cost rule of `PUSHAB`, cell "1". -/
def rulePushab : Rule := fun _ f => fixed { c := 1 } f

/-- R307: `PUSHAB`. -/
def execPushab (s : State) : Host.Outcome State Fault Refusal := runRule rulePushab s

/-- R308: the cost rule of `PUSHAL`, cell "1". -/
def rulePushal : Rule := fun _ f => fixed { c := 1 } f

/-- R308: `PUSHAL`. -/
def execPushal (s : State) : Host.Outcome State Fault Refusal := runRule rulePushal s

/-- R309: the cost rule of `PUSHAQ`, cell "1". -/
def rulePushaq : Rule := fun _ f => fixed { c := 1 } f

/-- R309: `PUSHAQ`. -/
def execPushaq (s : State) : Host.Outcome State Fault Refusal := runRule rulePushaq s

/-- R310: the cost rule of `PUSHAW`, cell "1". -/
def rulePushaw : Rule := fun _ f => fixed { c := 1 } f

/-- R310: `PUSHAW`. -/
def execPushaw (s : State) : Host.Outcome State Fault Refusal := runRule rulePushaw s

/-- R311: the cost rule of `CMPV`, cell "9"; "13+1r - 16+2r, 13+1r typ". -/
def ruleCmpv : Rule := fun _ f =>
  if f.vInReg then fixed { c := 9 } f
  else ranged { c := 13, r := 1 } { c := 16, r := 2 } f

/-- R311: `CMPV`. -/
def execCmpv (s : State) : Host.Outcome State Fault Refusal := runRule ruleCmpv s

/-- R312: the cost rule of `CMPZV`, cell "9"; "13+1r - 16+2r, 13+1r typ". -/
def ruleCmpzv : Rule := fun _ f =>
  if f.vInReg then fixed { c := 9 } f
  else ranged { c := 13, r := 1 } { c := 16, r := 2 } f

/-- R312: `CMPZV`. -/
def execCmpzv (s : State) : Host.Outcome State Fault Refusal := runRule ruleCmpzv s

/-- R313: the cost rule of `EXTV`, cell "8"; "12+1r - 15+2r, 12+1r typ". -/
def ruleExtv : Rule := fun _ f =>
  if f.vInReg then fixed { c := 8 } f
  else ranged { c := 12, r := 1 } { c := 15, r := 2 } f

/-- R313: `EXTV`. -/
def execExtv (s : State) : Host.Outcome State Fault Refusal := runRule ruleExtv s

/-- R314: the cost rule of `EXTZV`, cell "8"; "12+1r - 15+2r, 12+1r typ". -/
def ruleExtzv : Rule := fun _ f =>
  if f.vInReg then fixed { c := 8 } f
  else ranged { c := 12, r := 1 } { c := 15, r := 2 } f

/-- R314: `EXTZV`. -/
def execExtzv (s : State) : Host.Outcome State Fault Refusal := runRule ruleExtzv s

/-- R315: the cost rule of `INSV`, cell "11-12, 11 typ"; "12+1r+1w - 13+2r+2w, 12+1r+1w typ". -/
def ruleInsv : Rule := fun _ f =>
  if f.vInReg then ranged { c := 11 } { c := 12 } f
  else ranged { c := 12, r := 1, w := 1 } { c := 13, r := 2, w := 2 } f

/-- R315: `INSV`. -/
def execInsv (s : State) : Host.Outcome State Fault Refusal := runRule ruleInsv s

/-- R316: the cost rule of `FFC`, cell "14-18, 16 typ"; "18+1r - 25+2r, 20+1r typ". -/
def ruleFfc : Rule := fun _ f =>
  if f.vInReg then ranged { c := 14 } { c := 18 } f
  else ranged { c := 18, r := 1 } { c := 25, r := 2 } f

/-- R316: `FFC`. -/
def execFfc (s : State) : Host.Outcome State Fault Refusal := runRule ruleFfc s

/-- R317: the cost rule of `FFS`, cell "13-17, 15 typ"; "17+1r - 24+2r, 19+1r typ". -/
def ruleFfs : Rule := fun _ f =>
  if f.vInReg then ranged { c := 13 } { c := 17 } f
  else ranged { c := 17, r := 1 } { c := 24, r := 2 } f

/-- R317: `FFS`. -/
def execFfs (s : State) : Host.Outcome State Fault Refusal := runRule ruleFfs s

end Sys2Proof.Machine
end

