-- ==== Sys2Proof/Machine/CharacterString.lean ====
section
/-! DEFINITION. Character string instructions (R410 to R420): counts `n` and `k` of the main and fill loops (R410), `rst` on all eight rows (R411).
Each row has its cost rule, from the rule's pseudocode, and its meaning, that rule applied to the event at `pos`. -/

namespace Sys2Proof.Machine

open Sys2Proof

/-- R413: the cost rule of `CMPC3`, cell "8+7n+2nr+(rst)". -/
def ruleCmpc3 : Rule := fun _ f => fixed { c := 8 + 7 * f.n, r := 2 * f.n, rst := 1 } f

/-- R413: `CMPC3`. -/
def execCmpc3 (s : State) : Host.Outcome State Fault Refusal := runRule ruleCmpc3 s

/-- R414: the cost rule of `CMPC5`, cell "9+7n+2nr+6k+kr+(rst)". -/
def ruleCmpc5 : Rule := fun _ f => fixed { c := 9 + 7 * f.n + 6 * f.k, r := 2 * f.n + f.k, rst := 1 } f

/-- R414: `CMPC5`. -/
def execCmpc5 (s : State) : Host.Outcome State Fault Refusal := runRule ruleCmpc5 s

/-- R415: the cost rule of `LOCC`, cell "6+6n+nr+(rst)". -/
def ruleLocc : Rule := fun _ f => fixed { c := 6 + 6 * f.n, r := f.n, rst := 1 } f

/-- R415: `LOCC`. -/
def execLocc (s : State) : Host.Outcome State Fault Refusal := runRule ruleLocc s

/-- R416: the cost rule of `MOVC3`, cell "16+3n+nr+nw+(rst)". -/
def ruleMovc3 : Rule := fun _ f => fixed { c := 16 + 3 * f.n, r := f.n, w := f.n, rst := 1 } f

/-- R416: `MOVC3`. -/
def execMovc3 (s : State) : Host.Outcome State Fault Refusal := runRule ruleMovc3 s

/-- R417: the cost rule of `MOVC5`, cell "30+3n+nr+nw+2k+kw+(rst)". -/
def ruleMovc5 : Rule := fun _ f => fixed { c := 30 + 3 * f.n + 2 * f.k, r := f.n, w := f.n + f.k, rst := 1 } f

/-- R417: `MOVC5`. -/
def execMovc5 (s : State) : Host.Outcome State Fault Refusal := runRule ruleMovc5 s

/-- R418: the cost rule of `SCANC`, cell "8+9n+2nr+(rst)". -/
def ruleScanc : Rule := fun _ f => fixed { c := 8 + 9 * f.n, r := 2 * f.n, rst := 1 } f

/-- R418: `SCANC`. -/
def execScanc (s : State) : Host.Outcome State Fault Refusal := runRule ruleScanc s

/-- R419: the cost rule of `SKPC`, cell "6+6n+nr+(rst)". -/
def ruleSkpc : Rule := fun _ f => fixed { c := 6 + 6 * f.n, r := f.n, rst := 1 } f

/-- R419: `SKPC`. -/
def execSkpc (s : State) : Host.Outcome State Fault Refusal := runRule ruleSkpc s

/-- R420: the cost rule of `SPANC`, cell "8+9n+2nr+(rst)". -/
def ruleSpanc : Rule := fun _ f => fixed { c := 8 + 9 * f.n, r := 2 * f.n, rst := 1 } f

/-- R420: `SPANC`. -/
def execSpanc (s : State) : Host.Outcome State Fault Refusal := runRule ruleSpanc s

end Sys2Proof.Machine
end

