-- ==== Sys2Proof/Machine/Control.lean ====
section
/-! DEFINITION. Control instructions (R320 to R362): `mpr = m(f)` on the 29 conditional branches (R321), `pfl` on every instance of CASEx (R322).
Each row has its cost rule, from the rule's pseudocode, and its meaning, that rule applied to the event at `pos`. -/

namespace Sys2Proof.Machine

open Sys2Proof

/-- R324: the cost rule of `ACBB`, cell "3+(mpr)". -/
def ruleAcbb : Rule := fun _ f => fixed { c := 3, mpr := f.m } f

/-- R324: `ACBB`. -/
def execAcbb (s : State) : Host.Outcome State Fault Refusal := runRule ruleAcbb s

/-- R325: the cost rule of `ACBL`, cell "3+(mpr)". -/
def ruleAcbl : Rule := fun _ f => fixed { c := 3, mpr := f.m } f

/-- R325: `ACBL`. -/
def execAcbl (s : State) : Host.Outcome State Fault Refusal := runRule ruleAcbl s

/-- R326: the cost rule of `ACBW`, cell "3+(mpr)". -/
def ruleAcbw : Rule := fun _ f => fixed { c := 3, mpr := f.m } f

/-- R326: `ACBW`. -/
def execAcbw (s : State) : Host.Outcome State Fault Refusal := runRule ruleAcbw s

/-- R327: the cost rule of `AOBLEQ`, cell "2+(mpr)". -/
def ruleAobleq : Rule := fun _ f => fixed { c := 2, mpr := f.m } f

/-- R327: `AOBLEQ`. -/
def execAobleq (s : State) : Host.Outcome State Fault Refusal := runRule ruleAobleq s

/-- R328: the cost rule of `AOBLSS`, cell "2+(mpr)". -/
def ruleAoblss : Rule := fun _ f => fixed { c := 2, mpr := f.m } f

/-- R328: `AOBLSS`. -/
def execAoblss (s : State) : Host.Outcome State Fault Refusal := runRule ruleAoblss s

/-- R329: the cost rule of `BCC`, cell "1+(mpr)". -/
def ruleBcc : Rule := fun _ f => fixed { c := 1, mpr := f.m } f

/-- R329: `BCC`. -/
def execBcc (s : State) : Host.Outcome State Fault Refusal := runRule ruleBcc s

/-- R330: the cost rule of `BCS`, cell "1+(mpr)". -/
def ruleBcs : Rule := fun _ f => fixed { c := 1, mpr := f.m } f

/-- R330: `BCS`. -/
def execBcs (s : State) : Host.Outcome State Fault Refusal := runRule ruleBcs s

/-- R331: the cost rule of `BEQL`, cell "1+(mpr)". -/
def ruleBeql : Rule := fun _ f => fixed { c := 1, mpr := f.m } f

/-- R331: `BEQL`. -/
def execBeql (s : State) : Host.Outcome State Fault Refusal := runRule ruleBeql s

/-- R332: the cost rule of `BGEQ`, cell "1+(mpr)". -/
def ruleBgeq : Rule := fun _ f => fixed { c := 1, mpr := f.m } f

/-- R332: `BGEQ`. -/
def execBgeq (s : State) : Host.Outcome State Fault Refusal := runRule ruleBgeq s

/-- R333: the cost rule of `BGTR`, cell "1+(mpr)". -/
def ruleBgtr : Rule := fun _ f => fixed { c := 1, mpr := f.m } f

/-- R333: `BGTR`. -/
def execBgtr (s : State) : Host.Outcome State Fault Refusal := runRule ruleBgtr s

/-- R334: the cost rule of `BGTRU`, cell "1+(mpr)". -/
def ruleBgtru : Rule := fun _ f => fixed { c := 1, mpr := f.m } f

/-- R334: `BGTRU`. -/
def execBgtru (s : State) : Host.Outcome State Fault Refusal := runRule ruleBgtru s

/-- R335: the cost rule of `BLEQ`, cell "1+(mpr)". -/
def ruleBleq : Rule := fun _ f => fixed { c := 1, mpr := f.m } f

/-- R335: `BLEQ`. -/
def execBleq (s : State) : Host.Outcome State Fault Refusal := runRule ruleBleq s

/-- R336: the cost rule of `BLEQU`, cell "1+(mpr)". -/
def ruleBlequ : Rule := fun _ f => fixed { c := 1, mpr := f.m } f

/-- R336: `BLEQU`. -/
def execBlequ (s : State) : Host.Outcome State Fault Refusal := runRule ruleBlequ s

/-- R337: the cost rule of `BLSS`, cell "1+(mpr)". -/
def ruleBlss : Rule := fun _ f => fixed { c := 1, mpr := f.m } f

/-- R337: `BLSS`. -/
def execBlss (s : State) : Host.Outcome State Fault Refusal := runRule ruleBlss s

/-- R338: the cost rule of `BNEQ`, cell "1+(mpr)". -/
def ruleBneq : Rule := fun _ f => fixed { c := 1, mpr := f.m } f

/-- R338: `BNEQ`. -/
def execBneq (s : State) : Host.Outcome State Fault Refusal := runRule ruleBneq s

/-- R339: the cost rule of `BVC`, cell "1+(mpr)". -/
def ruleBvc : Rule := fun _ f => fixed { c := 1, mpr := f.m } f

/-- R339: `BVC`. -/
def execBvc (s : State) : Host.Outcome State Fault Refusal := runRule ruleBvc s

/-- R340: the cost rule of `BVS`, cell "1+(mpr)". -/
def ruleBvs : Rule := fun _ f => fixed { c := 1, mpr := f.m } f

/-- R340: `BVS`. -/
def execBvs (s : State) : Host.Outcome State Fault Refusal := runRule ruleBvs s

/-- R341: the cost rule of `BBC`, cell "5+(mpr)"; "6+1r+(mpr)". -/
def ruleBbc : Rule := fun _ f =>
  if f.vInReg then fixed { c := 5, mpr := f.m } f
  else fixed { c := 6, r := 1, mpr := f.m } f

/-- R341: `BBC`. -/
def execBbc (s : State) : Host.Outcome State Fault Refusal := runRule ruleBbc s

/-- R342: the cost rule of `BBS`, cell "5+(mpr)"; "6+1r+(mpr)". -/
def ruleBbs : Rule := fun _ f =>
  if f.vInReg then fixed { c := 5, mpr := f.m } f
  else fixed { c := 6, r := 1, mpr := f.m } f

/-- R342: `BBS`. -/
def execBbs (s : State) : Host.Outcome State Fault Refusal := runRule ruleBbs s

/-- R343: the cost rule of `BBCC`, cell "5+(mpr)"; "6+1r+1w+(mpr)". -/
def ruleBbcc : Rule := fun _ f =>
  if f.vInReg then fixed { c := 5, mpr := f.m } f
  else fixed { c := 6, r := 1, w := 1, mpr := f.m } f

/-- R343: `BBCC`. -/
def execBbcc (s : State) : Host.Outcome State Fault Refusal := runRule ruleBbcc s

/-- R344: the cost rule of `BBCS`, cell "5+(mpr)"; "6+1r+1w+(mpr)". -/
def ruleBbcs : Rule := fun _ f =>
  if f.vInReg then fixed { c := 5, mpr := f.m } f
  else fixed { c := 6, r := 1, w := 1, mpr := f.m } f

/-- R344: `BBCS`. -/
def execBbcs (s : State) : Host.Outcome State Fault Refusal := runRule ruleBbcs s

/-- R345: the cost rule of `BBSC`, cell "5+(mpr)"; "6+1r+1w+(mpr)". -/
def ruleBbsc : Rule := fun _ f =>
  if f.vInReg then fixed { c := 5, mpr := f.m } f
  else fixed { c := 6, r := 1, w := 1, mpr := f.m } f

/-- R345: `BBSC`. -/
def execBbsc (s : State) : Host.Outcome State Fault Refusal := runRule ruleBbsc s

/-- R346: the cost rule of `BBSS`, cell "5+(mpr)"; "6+1r+1w+(mpr)". -/
def ruleBbss : Rule := fun _ f =>
  if f.vInReg then fixed { c := 5, mpr := f.m } f
  else fixed { c := 6, r := 1, w := 1, mpr := f.m } f

/-- R346: `BBSS`. -/
def execBbss (s : State) : Host.Outcome State Fault Refusal := runRule ruleBbss s

/-- R347: the cost rule of `BBCCI`, cell "5+(mpr)"; "7+1r+1w+(mpr)". -/
def ruleBbcci : Rule := fun _ f =>
  if f.vInReg then fixed { c := 5, mpr := f.m } f
  else fixed { c := 7, r := 1, w := 1, mpr := f.m } f

/-- R347: `BBCCI`. -/
def execBbcci (s : State) : Host.Outcome State Fault Refusal := runRule ruleBbcci s

/-- R348: the cost rule of `BBSSI`, cell "5+(mpr)"; "7+1r+1w+(mpr)". -/
def ruleBbssi : Rule := fun _ f =>
  if f.vInReg then fixed { c := 5, mpr := f.m } f
  else fixed { c := 7, r := 1, w := 1, mpr := f.m } f

/-- R348: `BBSSI`. -/
def execBbssi (s : State) : Host.Outcome State Fault Refusal := runRule ruleBbssi s

/-- R349: the cost rule of `BLBC`, cell "1+(mpr)". -/
def ruleBlbc : Rule := fun _ f => fixed { c := 1, mpr := f.m } f

/-- R349: `BLBC`. -/
def execBlbc (s : State) : Host.Outcome State Fault Refusal := runRule ruleBlbc s

/-- R350: the cost rule of `BLBS`, cell "1+(mpr)". -/
def ruleBlbs : Rule := fun _ f => fixed { c := 1, mpr := f.m } f

/-- R350: `BLBS`. -/
def execBlbs (s : State) : Host.Outcome State Fault Refusal := runRule ruleBlbs s

/-- R351: the cost rule of `BRB`, cell "1". -/
def ruleBrb : Rule := fun _ f => fixed { c := 1 } f

/-- R351: `BRB`. -/
def execBrb (s : State) : Host.Outcome State Fault Refusal := runRule ruleBrb s

/-- R352: the cost rule of `BRW`, cell "1". -/
def ruleBrw : Rule := fun _ f => fixed { c := 1 } f

/-- R352: `BRW`. -/
def execBrw (s : State) : Host.Outcome State Fault Refusal := runRule ruleBrw s

/-- R353: the cost rule of `BSBB`, cell "1". -/
def ruleBsbb : Rule := fun _ f => fixed { c := 1 } f

/-- R353: `BSBB`. -/
def execBsbb (s : State) : Host.Outcome State Fault Refusal := runRule ruleBsbb s

/-- R354: the cost rule of `BSBW`, cell "1". -/
def ruleBsbw : Rule := fun _ f => fixed { c := 1 } f

/-- R354: `BSBW`. -/
def execBsbw (s : State) : Host.Outcome State Fault Refusal := runRule ruleBsbw s

/-- R355: the cost rule of `CASEB`, cell "9+1r+(pfl)". -/
def ruleCaseb : Rule := fun _ f => fixed { c := 9, r := 1, pfl := 1 } f

/-- R355: `CASEB`. -/
def execCaseb (s : State) : Host.Outcome State Fault Refusal := runRule ruleCaseb s

/-- R356: the cost rule of `CASEL`, cell "9+1r+(pfl)". -/
def ruleCasel : Rule := fun _ f => fixed { c := 9, r := 1, pfl := 1 } f

/-- R356: `CASEL`. -/
def execCasel (s : State) : Host.Outcome State Fault Refusal := runRule ruleCasel s

/-- R357: the cost rule of `CASEW`, cell "9+1r+(pfl)". -/
def ruleCasew : Rule := fun _ f => fixed { c := 9, r := 1, pfl := 1 } f

/-- R357: `CASEW`. -/
def execCasew (s : State) : Host.Outcome State Fault Refusal := runRule ruleCasew s

/-- R358: the cost rule of `JMP`, cell "1". -/
def ruleJmp : Rule := fun _ f => fixed { c := 1 } f

/-- R358: `JMP`. -/
def execJmp (s : State) : Host.Outcome State Fault Refusal := runRule ruleJmp s

/-- R359: the cost rule of `JSB`, cell "1". -/
def ruleJsb : Rule := fun _ f => fixed { c := 1 } f

/-- R359: `JSB`. -/
def execJsb (s : State) : Host.Outcome State Fault Refusal := runRule ruleJsb s

/-- R360: the cost rule of `RSB`, cell "1". -/
def ruleRsb : Rule := fun _ f => fixed { c := 1 } f

/-- R360: `RSB`. -/
def execRsb (s : State) : Host.Outcome State Fault Refusal := runRule ruleRsb s

/-- R361: the cost rule of `SOBGEQ`, cell "1+(mpr)". -/
def ruleSobgeq : Rule := fun _ f => fixed { c := 1, mpr := f.m } f

/-- R361: `SOBGEQ`. -/
def execSobgeq (s : State) : Host.Outcome State Fault Refusal := runRule ruleSobgeq s

/-- R362: the cost rule of `SOBGTR`, cell "1+(mpr)". -/
def ruleSobgtr : Rule := fun _ f => fixed { c := 1, mpr := f.m } f

/-- R362: `SOBGTR`. -/
def execSobgtr (s : State) : Host.Outcome State Fault Refusal := runRule ruleSobgtr s

end Sys2Proof.Machine
end

