-- ==== Sys2Proof/Machine/Emulated.lean ====
section
/-! DEFINITION. Microcode-assisted emulated instructions (R520 to R542): the cost of taking the emulation exception (R520, R605), used as printed (C9).
Each row has its cost rule, from the rule's pseudocode, and its meaning, that rule applied to the event at `pos`. -/

namespace Sys2Proof.Machine

open Sys2Proof

/-- R522: the cost rule of `ADDP4`, cell "11+1r+8w+(pfl)". -/
def ruleAddp4 : Rule := fun _ f => fixed { c := 11, r := 1, w := 8, pfl := 1 } f

/-- R522: `ADDP4`. -/
def execAddp4 (s : State) : Host.Outcome State Fault Refusal := runRule ruleAddp4 s

/-- R523: the cost rule of `ADDP6`, cell "12+1r+10w+(pfl)". -/
def ruleAddp6 : Rule := fun _ f => fixed { c := 12, r := 1, w := 10, pfl := 1 } f

/-- R523: `ADDP6`. -/
def execAddp6 (s : State) : Host.Outcome State Fault Refusal := runRule ruleAddp6 s

/-- R524: the cost rule of `ASHP`, cell "12+1r+10w+(pfl)". -/
def ruleAshp : Rule := fun _ f => fixed { c := 12, r := 1, w := 10, pfl := 1 } f

/-- R524: `ASHP`. -/
def execAshp (s : State) : Host.Outcome State Fault Refusal := runRule ruleAshp s

/-- R525: the cost rule of `CMPP3`, cell "9+1r+7w+(pfl)". -/
def ruleCmpp3 : Rule := fun _ f => fixed { c := 9, r := 1, w := 7, pfl := 1 } f

/-- R525: `CMPP3`. -/
def execCmpp3 (s : State) : Host.Outcome State Fault Refusal := runRule ruleCmpp3 s

/-- R526: the cost rule of `CMPP4`, cell "11+1r+8w+(pfl)". -/
def ruleCmpp4 : Rule := fun _ f => fixed { c := 11, r := 1, w := 8, pfl := 1 } f

/-- R526: `CMPP4`. -/
def execCmpp4 (s : State) : Host.Outcome State Fault Refusal := runRule ruleCmpp4 s

/-- R527: the cost rule of `CRC`, cell "11+1r+8w+(pfl)". -/
def ruleCrc : Rule := fun _ f => fixed { c := 11, r := 1, w := 8, pfl := 1 } f

/-- R527: `CRC`. -/
def execCrc (s : State) : Host.Outcome State Fault Refusal := runRule ruleCrc s

/-- R528: the cost rule of `CVTLP`, cell "9+1r+7w+(pfl)". -/
def ruleCvtlp : Rule := fun _ f => fixed { c := 9, r := 1, w := 7, pfl := 1 } f

/-- R528: `CVTLP`. -/
def execCvtlp (s : State) : Host.Outcome State Fault Refusal := runRule ruleCvtlp s

/-- R529: the cost rule of `CVTPL`, cell "10+1r+7w+(pfl)". -/
def ruleCvtpl : Rule := fun _ f => fixed { c := 10, r := 1, w := 7, pfl := 1 } f

/-- R529: `CVTPL`. -/
def execCvtpl (s : State) : Host.Outcome State Fault Refusal := runRule ruleCvtpl s

/-- R530: the cost rule of `CVTPS`, cell "11+1r+8w+(pfl)". -/
def ruleCvtps : Rule := fun _ f => fixed { c := 11, r := 1, w := 8, pfl := 1 } f

/-- R530: `CVTPS`. -/
def execCvtps (s : State) : Host.Outcome State Fault Refusal := runRule ruleCvtps s

/-- R531: the cost rule of `CVTSP`, cell "11+1r+8w+(pfl)". -/
def ruleCvtsp : Rule := fun _ f => fixed { c := 11, r := 1, w := 8, pfl := 1 } f

/-- R531: `CVTSP`. -/
def execCvtsp (s : State) : Host.Outcome State Fault Refusal := runRule ruleCvtsp s

/-- R532: the cost rule of `CVTPT`, cell "11+1r+9w+(pfl)". -/
def ruleCvtpt : Rule := fun _ f => fixed { c := 11, r := 1, w := 9, pfl := 1 } f

/-- R532: `CVTPT`. -/
def execCvtpt (s : State) : Host.Outcome State Fault Refusal := runRule ruleCvtpt s

/-- R533: the cost rule of `CVTTP`, cell "11+1r+9w+(pfl)". -/
def ruleCvttp : Rule := fun _ f => fixed { c := 11, r := 1, w := 9, pfl := 1 } f

/-- R533: `CVTTP`. -/
def execCvttp (s : State) : Host.Outcome State Fault Refusal := runRule ruleCvttp s

/-- R534: the cost rule of `DIVP`, cell "12+1r+10w+(pfl)". -/
def ruleDivp : Rule := fun _ f => fixed { c := 12, r := 1, w := 10, pfl := 1 } f

/-- R534: `DIVP`. -/
def execDivp (s : State) : Host.Outcome State Fault Refusal := runRule ruleDivp s

/-- R535: the cost rule of `EDITPC`, cell "11+1r+8w+(pfl)". -/
def ruleEditpc : Rule := fun _ f => fixed { c := 11, r := 1, w := 8, pfl := 1 } f

/-- R535: `EDITPC`. -/
def execEditpc (s : State) : Host.Outcome State Fault Refusal := runRule ruleEditpc s

/-- R536: the cost rule of `MATCHC`, cell "11+1r+8w+(pfl)". -/
def ruleMatchc : Rule := fun _ f => fixed { c := 11, r := 1, w := 8, pfl := 1 } f

/-- R536: `MATCHC`. -/
def execMatchc (s : State) : Host.Outcome State Fault Refusal := runRule ruleMatchc s

/-- R537: the cost rule of `MOVP`, cell "9+1r+7w+(pfl)". -/
def ruleMovp : Rule := fun _ f => fixed { c := 9, r := 1, w := 7, pfl := 1 } f

/-- R537: `MOVP`. -/
def execMovp (s : State) : Host.Outcome State Fault Refusal := runRule ruleMovp s

/-- R538: the cost rule of `MOVTC`, cell "12+1r+10w+(pfl)". -/
def ruleMovtc : Rule := fun _ f => fixed { c := 12, r := 1, w := 10, pfl := 1 } f

/-- R538: `MOVTC`. -/
def execMovtc (s : State) : Host.Outcome State Fault Refusal := runRule ruleMovtc s

/-- R539: the cost rule of `MOVTUC`, cell "12+1r+10w+(pfl)". -/
def ruleMovtuc : Rule := fun _ f => fixed { c := 12, r := 1, w := 10, pfl := 1 } f

/-- R539: `MOVTUC`. -/
def execMovtuc (s : State) : Host.Outcome State Fault Refusal := runRule ruleMovtuc s

/-- R540: the cost rule of `MULP`, cell "12+1r+10w+(pfl)". -/
def ruleMulp : Rule := fun _ f => fixed { c := 12, r := 1, w := 10, pfl := 1 } f

/-- R540: `MULP`. -/
def execMulp (s : State) : Host.Outcome State Fault Refusal := runRule ruleMulp s

/-- R541: the cost rule of `SUBP4`, cell "11+1r+8w+(pfl)". -/
def ruleSubp4 : Rule := fun _ f => fixed { c := 11, r := 1, w := 8, pfl := 1 } f

/-- R541: `SUBP4`. -/
def execSubp4 (s : State) : Host.Outcome State Fault Refusal := runRule ruleSubp4 s

/-- R542: the cost rule of `SUBP6`, cell "12+1r+10w+(pfl)". -/
def ruleSubp6 : Rule := fun _ f => fixed { c := 12, r := 1, w := 10, pfl := 1 } f

/-- R542: `SUBP6`. -/
def execSubp6 (s : State) : Host.Outcome State Fault Refusal := runRule ruleSubp6 s

end Sys2Proof.Machine
end

