-- ==== Sys2Proof/Machine/Floating.lean ====
section
/-! DEFINITION. Floating point instructions (R450 to R513): every cell is `tbd`, so each row is the parameter `tbd_cost` of its mnemonic (R450).
Each row has its cost rule, from the rule's pseudocode, and its meaning, that rule applied to the event at `pos`. -/

namespace Sys2Proof.Machine

open Sys2Proof

/-- R453: the cost rule of `ADDD2`, cell "tbd". -/
def ruleAddd2 : Rule := fun p f => tbdCell .addd2 p f

/-- R453: `ADDD2`. -/
def execAddd2 (s : State) : Host.Outcome State Fault Refusal := runRule ruleAddd2 s

/-- R454: the cost rule of `ADDF2`, cell "tbd". -/
def ruleAddf2 : Rule := fun p f => tbdCell .addf2 p f

/-- R454: `ADDF2`. -/
def execAddf2 (s : State) : Host.Outcome State Fault Refusal := runRule ruleAddf2 s

/-- R455: the cost rule of `ADDG2`, cell "tbd". -/
def ruleAddg2 : Rule := fun p f => tbdCell .addg2 p f

/-- R455: `ADDG2`. -/
def execAddg2 (s : State) : Host.Outcome State Fault Refusal := runRule ruleAddg2 s

/-- R456: the cost rule of `ADDD3`, cell "tbd". -/
def ruleAddd3 : Rule := fun p f => tbdCell .addd3 p f

/-- R456: `ADDD3`. -/
def execAddd3 (s : State) : Host.Outcome State Fault Refusal := runRule ruleAddd3 s

/-- R457: the cost rule of `ADDF3`, cell "tbd". -/
def ruleAddf3 : Rule := fun p f => tbdCell .addf3 p f

/-- R457: `ADDF3`. -/
def execAddf3 (s : State) : Host.Outcome State Fault Refusal := runRule ruleAddf3 s

/-- R458: the cost rule of `ADDG3`, cell "tbd". -/
def ruleAddg3 : Rule := fun p f => tbdCell .addg3 p f

/-- R458: `ADDG3`. -/
def execAddg3 (s : State) : Host.Outcome State Fault Refusal := runRule ruleAddg3 s

/-- R459: the cost rule of `CMPD`, cell "tbd". -/
def ruleCmpd : Rule := fun p f => tbdCell .cmpd p f

/-- R459: `CMPD`. -/
def execCmpd (s : State) : Host.Outcome State Fault Refusal := runRule ruleCmpd s

/-- R460: the cost rule of `CMPF`, cell "tbd". -/
def ruleCmpf : Rule := fun p f => tbdCell .cmpf p f

/-- R460: `CMPF`. -/
def execCmpf (s : State) : Host.Outcome State Fault Refusal := runRule ruleCmpf s

/-- R461: the cost rule of `CMPG`, cell "tbd". -/
def ruleCmpg : Rule := fun p f => tbdCell .cmpg p f

/-- R461: `CMPG`. -/
def execCmpg (s : State) : Host.Outcome State Fault Refusal := runRule ruleCmpg s

/-- R462: the cost rule of `CVTBD`, cell "tbd". -/
def ruleCvtbd : Rule := fun p f => tbdCell .cvtbd p f

/-- R462: `CVTBD`. -/
def execCvtbd (s : State) : Host.Outcome State Fault Refusal := runRule ruleCvtbd s

/-- R463: the cost rule of `CVTBF`, cell "tbd". -/
def ruleCvtbf : Rule := fun p f => tbdCell .cvtbf p f

/-- R463: `CVTBF`. -/
def execCvtbf (s : State) : Host.Outcome State Fault Refusal := runRule ruleCvtbf s

/-- R464: the cost rule of `CVTBG`, cell "tbd". -/
def ruleCvtbg : Rule := fun p f => tbdCell .cvtbg p f

/-- R464: `CVTBG`. -/
def execCvtbg (s : State) : Host.Outcome State Fault Refusal := runRule ruleCvtbg s

/-- R465: the cost rule of `CVTDB`, cell "tbd". -/
def ruleCvtdb : Rule := fun p f => tbdCell .cvtdb p f

/-- R465: `CVTDB`. -/
def execCvtdb (s : State) : Host.Outcome State Fault Refusal := runRule ruleCvtdb s

/-- R466: the cost rule of `CVTDF`, cell "tbd". -/
def ruleCvtdf : Rule := fun p f => tbdCell .cvtdf p f

/-- R466: `CVTDF`. -/
def execCvtdf (s : State) : Host.Outcome State Fault Refusal := runRule ruleCvtdf s

/-- R467: the cost rule of `CVTDL`, cell "tbd". -/
def ruleCvtdl : Rule := fun p f => tbdCell .cvtdl p f

/-- R467: `CVTDL`. -/
def execCvtdl (s : State) : Host.Outcome State Fault Refusal := runRule ruleCvtdl s

/-- R468: the cost rule of `CVTDW`, cell "tbd". -/
def ruleCvtdw : Rule := fun p f => tbdCell .cvtdw p f

/-- R468: `CVTDW`. -/
def execCvtdw (s : State) : Host.Outcome State Fault Refusal := runRule ruleCvtdw s

/-- R469: the cost rule of `CVTFB`, cell "tbd". -/
def ruleCvtfb : Rule := fun p f => tbdCell .cvtfb p f

/-- R469: `CVTFB`. -/
def execCvtfb (s : State) : Host.Outcome State Fault Refusal := runRule ruleCvtfb s

/-- R470: the cost rule of `CVTFD`, cell "tbd". -/
def ruleCvtfd : Rule := fun p f => tbdCell .cvtfd p f

/-- R470: `CVTFD`. -/
def execCvtfd (s : State) : Host.Outcome State Fault Refusal := runRule ruleCvtfd s

/-- R471: the cost rule of `CVTFG`, cell "tbd". -/
def ruleCvtfg : Rule := fun p f => tbdCell .cvtfg p f

/-- R471: `CVTFG`. -/
def execCvtfg (s : State) : Host.Outcome State Fault Refusal := runRule ruleCvtfg s

/-- R472: the cost rule of `CVTFL`, cell "tbd". -/
def ruleCvtfl : Rule := fun p f => tbdCell .cvtfl p f

/-- R472: `CVTFL`. -/
def execCvtfl (s : State) : Host.Outcome State Fault Refusal := runRule ruleCvtfl s

/-- R473: the cost rule of `CVTFW`, cell "tbd". -/
def ruleCvtfw : Rule := fun p f => tbdCell .cvtfw p f

/-- R473: `CVTFW`. -/
def execCvtfw (s : State) : Host.Outcome State Fault Refusal := runRule ruleCvtfw s

/-- R474: the cost rule of `CVTGB`, cell "tbd". -/
def ruleCvtgb : Rule := fun p f => tbdCell .cvtgb p f

/-- R474: `CVTGB`. -/
def execCvtgb (s : State) : Host.Outcome State Fault Refusal := runRule ruleCvtgb s

/-- R475: the cost rule of `CVTGF`, cell "tbd". -/
def ruleCvtgf : Rule := fun p f => tbdCell .cvtgf p f

/-- R475: `CVTGF`. -/
def execCvtgf (s : State) : Host.Outcome State Fault Refusal := runRule ruleCvtgf s

/-- R476: the cost rule of `CVTGL`, cell "tbd". -/
def ruleCvtgl : Rule := fun p f => tbdCell .cvtgl p f

/-- R476: `CVTGL`. -/
def execCvtgl (s : State) : Host.Outcome State Fault Refusal := runRule ruleCvtgl s

/-- R477: the cost rule of `CVTGW`, cell "tbd". -/
def ruleCvtgw : Rule := fun p f => tbdCell .cvtgw p f

/-- R477: `CVTGW`. -/
def execCvtgw (s : State) : Host.Outcome State Fault Refusal := runRule ruleCvtgw s

/-- R478: the cost rule of `CVTLD`, cell "tbd". -/
def ruleCvtld : Rule := fun p f => tbdCell .cvtld p f

/-- R478: `CVTLD`. -/
def execCvtld (s : State) : Host.Outcome State Fault Refusal := runRule ruleCvtld s

/-- R479: the cost rule of `CVTLF`, cell "tbd". -/
def ruleCvtlf : Rule := fun p f => tbdCell .cvtlf p f

/-- R479: `CVTLF`. -/
def execCvtlf (s : State) : Host.Outcome State Fault Refusal := runRule ruleCvtlf s

/-- R480: the cost rule of `CVTLG`, cell "tbd". -/
def ruleCvtlg : Rule := fun p f => tbdCell .cvtlg p f

/-- R480: `CVTLG`. -/
def execCvtlg (s : State) : Host.Outcome State Fault Refusal := runRule ruleCvtlg s

/-- R481: the cost rule of `CVTWD`, cell "tbd". -/
def ruleCvtwd : Rule := fun p f => tbdCell .cvtwd p f

/-- R481: `CVTWD`. -/
def execCvtwd (s : State) : Host.Outcome State Fault Refusal := runRule ruleCvtwd s

/-- R482: the cost rule of `CVTWF`, cell "tbd". -/
def ruleCvtwf : Rule := fun p f => tbdCell .cvtwf p f

/-- R482: `CVTWF`. -/
def execCvtwf (s : State) : Host.Outcome State Fault Refusal := runRule ruleCvtwf s

/-- R483: the cost rule of `CVTWG`, cell "tbd". -/
def ruleCvtwg : Rule := fun p f => tbdCell .cvtwg p f

/-- R483: `CVTWG`. -/
def execCvtwg (s : State) : Host.Outcome State Fault Refusal := runRule ruleCvtwg s

/-- R484: the cost rule of `CVTRDL`, cell "tbd". -/
def ruleCvtrdl : Rule := fun p f => tbdCell .cvtrdl p f

/-- R484: `CVTRDL`. -/
def execCvtrdl (s : State) : Host.Outcome State Fault Refusal := runRule ruleCvtrdl s

/-- R485: the cost rule of `CVTRFL`, cell "tbd". -/
def ruleCvtrfl : Rule := fun p f => tbdCell .cvtrfl p f

/-- R485: `CVTRFL`. -/
def execCvtrfl (s : State) : Host.Outcome State Fault Refusal := runRule ruleCvtrfl s

/-- R486: the cost rule of `CVTRGL`, cell "tbd". -/
def ruleCvtrgl : Rule := fun p f => tbdCell .cvtrgl p f

/-- R486: `CVTRGL`. -/
def execCvtrgl (s : State) : Host.Outcome State Fault Refusal := runRule ruleCvtrgl s

/-- R487: the cost rule of `DIVD2`, cell "tbd". -/
def ruleDivd2 : Rule := fun p f => tbdCell .divd2 p f

/-- R487: `DIVD2`. -/
def execDivd2 (s : State) : Host.Outcome State Fault Refusal := runRule ruleDivd2 s

/-- R488: the cost rule of `DIVF2`, cell "tbd". -/
def ruleDivf2 : Rule := fun p f => tbdCell .divf2 p f

/-- R488: `DIVF2`. -/
def execDivf2 (s : State) : Host.Outcome State Fault Refusal := runRule ruleDivf2 s

/-- R489: the cost rule of `DIVG2`, cell "tbd". -/
def ruleDivg2 : Rule := fun p f => tbdCell .divg2 p f

/-- R489: `DIVG2`. -/
def execDivg2 (s : State) : Host.Outcome State Fault Refusal := runRule ruleDivg2 s

/-- R490: the cost rule of `DIVD3`, cell "tbd". -/
def ruleDivd3 : Rule := fun p f => tbdCell .divd3 p f

/-- R490: `DIVD3`. -/
def execDivd3 (s : State) : Host.Outcome State Fault Refusal := runRule ruleDivd3 s

/-- R491: the cost rule of `DIVF3`, cell "tbd". -/
def ruleDivf3 : Rule := fun p f => tbdCell .divf3 p f

/-- R491: `DIVF3`. -/
def execDivf3 (s : State) : Host.Outcome State Fault Refusal := runRule ruleDivf3 s

/-- R492: the cost rule of `DIVG3`, cell "tbd". -/
def ruleDivg3 : Rule := fun p f => tbdCell .divg3 p f

/-- R492: `DIVG3`. -/
def execDivg3 (s : State) : Host.Outcome State Fault Refusal := runRule ruleDivg3 s

/-- R493: the cost rule of `MNEGD`, cell "tbd". -/
def ruleMnegd : Rule := fun p f => tbdCell .mnegd p f

/-- R493: `MNEGD`. -/
def execMnegd (s : State) : Host.Outcome State Fault Refusal := runRule ruleMnegd s

/-- R494: the cost rule of `MNEGF`, cell "tbd". -/
def ruleMnegf : Rule := fun p f => tbdCell .mnegf p f

/-- R494: `MNEGF`. -/
def execMnegf (s : State) : Host.Outcome State Fault Refusal := runRule ruleMnegf s

/-- R495: the cost rule of `MNEGG`, cell "tbd". -/
def ruleMnegg : Rule := fun p f => tbdCell .mnegg p f

/-- R495: `MNEGG`. -/
def execMnegg (s : State) : Host.Outcome State Fault Refusal := runRule ruleMnegg s

/-- R496: the cost rule of `MOVD`, cell "tbd". -/
def ruleMovd : Rule := fun p f => tbdCell .movd p f

/-- R496: `MOVD`. -/
def execMovd (s : State) : Host.Outcome State Fault Refusal := runRule ruleMovd s

/-- R497: the cost rule of `MOVF`, cell "tbd". -/
def ruleMovf : Rule := fun p f => tbdCell .movf p f

/-- R497: `MOVF`. -/
def execMovf (s : State) : Host.Outcome State Fault Refusal := runRule ruleMovf s

/-- R498: the cost rule of `MOVG`, cell "tbd". -/
def ruleMovg : Rule := fun p f => tbdCell .movg p f

/-- R498: `MOVG`. -/
def execMovg (s : State) : Host.Outcome State Fault Refusal := runRule ruleMovg s

/-- R499: the cost rule of `MULD2`, cell "tbd". -/
def ruleMuld2 : Rule := fun p f => tbdCell .muld2 p f

/-- R499: `MULD2`. -/
def execMuld2 (s : State) : Host.Outcome State Fault Refusal := runRule ruleMuld2 s

/-- R500: the cost rule of `MULF2`, cell "tbd". -/
def ruleMulf2 : Rule := fun p f => tbdCell .mulf2 p f

/-- R500: `MULF2`. -/
def execMulf2 (s : State) : Host.Outcome State Fault Refusal := runRule ruleMulf2 s

/-- R501: the cost rule of `MULG2`, cell "tbd". -/
def ruleMulg2 : Rule := fun p f => tbdCell .mulg2 p f

/-- R501: `MULG2`. -/
def execMulg2 (s : State) : Host.Outcome State Fault Refusal := runRule ruleMulg2 s

/-- R502: the cost rule of `MULD3`, cell "tbd". -/
def ruleMuld3 : Rule := fun p f => tbdCell .muld3 p f

/-- R502: `MULD3`. -/
def execMuld3 (s : State) : Host.Outcome State Fault Refusal := runRule ruleMuld3 s

/-- R503: the cost rule of `MULF3`, cell "tbd". -/
def ruleMulf3 : Rule := fun p f => tbdCell .mulf3 p f

/-- R503: `MULF3`. -/
def execMulf3 (s : State) : Host.Outcome State Fault Refusal := runRule ruleMulf3 s

/-- R504: the cost rule of `MULG3`, cell "tbd". -/
def ruleMulg3 : Rule := fun p f => tbdCell .mulg3 p f

/-- R504: `MULG3`. -/
def execMulg3 (s : State) : Host.Outcome State Fault Refusal := runRule ruleMulg3 s

/-- R505: the cost rule of `SUBD2`, cell "tbd". -/
def ruleSubd2 : Rule := fun p f => tbdCell .subd2 p f

/-- R505: `SUBD2`. -/
def execSubd2 (s : State) : Host.Outcome State Fault Refusal := runRule ruleSubd2 s

/-- R506: the cost rule of `SUBF2`, cell "tbd". -/
def ruleSubf2 : Rule := fun p f => tbdCell .subf2 p f

/-- R506: `SUBF2`. -/
def execSubf2 (s : State) : Host.Outcome State Fault Refusal := runRule ruleSubf2 s

/-- R507: the cost rule of `SUBG2`, cell "tbd". -/
def ruleSubg2 : Rule := fun p f => tbdCell .subg2 p f

/-- R507: `SUBG2`. -/
def execSubg2 (s : State) : Host.Outcome State Fault Refusal := runRule ruleSubg2 s

/-- R508: the cost rule of `SUBD3`, cell "tbd". -/
def ruleSubd3 : Rule := fun p f => tbdCell .subd3 p f

/-- R508: `SUBD3`. -/
def execSubd3 (s : State) : Host.Outcome State Fault Refusal := runRule ruleSubd3 s

/-- R509: the cost rule of `SUBF3`, cell "tbd". -/
def ruleSubf3 : Rule := fun p f => tbdCell .subf3 p f

/-- R509: `SUBF3`. -/
def execSubf3 (s : State) : Host.Outcome State Fault Refusal := runRule ruleSubf3 s

/-- R510: the cost rule of `SUBG3`, cell "tbd". -/
def ruleSubg3 : Rule := fun p f => tbdCell .subg3 p f

/-- R510: `SUBG3`. -/
def execSubg3 (s : State) : Host.Outcome State Fault Refusal := runRule ruleSubg3 s

/-- R511: the cost rule of `TSTD`, cell "tbd". -/
def ruleTstd : Rule := fun p f => tbdCell .tstd p f

/-- R511: `TSTD`. -/
def execTstd (s : State) : Host.Outcome State Fault Refusal := runRule ruleTstd s

/-- R512: the cost rule of `TSTF`, cell "tbd". -/
def ruleTstf : Rule := fun p f => tbdCell .tstf p f

/-- R512: `TSTF`. -/
def execTstf (s : State) : Host.Outcome State Fault Refusal := runRule ruleTstf s

/-- R513: the cost rule of `TSTG`, cell "tbd". -/
def ruleTstg : Rule := fun p f => tbdCell .tstg p f

/-- R513: `TSTG`. -/
def execTstg (s : State) : Host.Outcome State Fault Refusal := runRule ruleTstg s

end Sys2Proof.Machine
end

