-- ==== Sys2Proof/Machine/Integer.lean ====
section
/-! DEFINITION. Integer arithmetic and logical instructions (R200 to R292). Only EDIV carries `rst` (R200), only ADAWI reads where an operand lies (R201), and only MULL2 and MULL3 read HAS_FPA (R202).
Each row has its cost rule, from the rule's pseudocode, and its meaning, that rule applied to the event at `pos`. -/

namespace Sys2Proof.Machine

open Sys2Proof

/-- R204: the cost rule of `ADAWI`, cell "4"; "5+1r+1w". -/
def ruleAdawi : Rule := fun _ f =>
  if f.sumInReg then fixed { c := 4 } f
  else fixed { c := 5, r := 1, w := 1 } f

/-- R204: `ADAWI`. -/
def execAdawi (s : State) : Host.Outcome State Fault Refusal := runRule ruleAdawi s

/-- R205: the cost rule of `ADDB2`, cell "1". -/
def ruleAddb2 : Rule := fun _ f => fixed { c := 1 } f

/-- R205: `ADDB2`. -/
def execAddb2 (s : State) : Host.Outcome State Fault Refusal := runRule ruleAddb2 s

/-- R206: the cost rule of `ADDL2`, cell "1". -/
def ruleAddl2 : Rule := fun _ f => fixed { c := 1 } f

/-- R206: `ADDL2`. -/
def execAddl2 (s : State) : Host.Outcome State Fault Refusal := runRule ruleAddl2 s

/-- R207: the cost rule of `ADDW2`, cell "1". -/
def ruleAddw2 : Rule := fun _ f => fixed { c := 1 } f

/-- R207: `ADDW2`. -/
def execAddw2 (s : State) : Host.Outcome State Fault Refusal := runRule ruleAddw2 s

/-- R208: the cost rule of `ADDB3`, cell "1". -/
def ruleAddb3 : Rule := fun _ f => fixed { c := 1 } f

/-- R208: `ADDB3`. -/
def execAddb3 (s : State) : Host.Outcome State Fault Refusal := runRule ruleAddb3 s

/-- R209: the cost rule of `ADDL3`, cell "1". -/
def ruleAddl3 : Rule := fun _ f => fixed { c := 1 } f

/-- R209: `ADDL3`. -/
def execAddl3 (s : State) : Host.Outcome State Fault Refusal := runRule ruleAddl3 s

/-- R210: the cost rule of `ADDW3`, cell "1". -/
def ruleAddw3 : Rule := fun _ f => fixed { c := 1 } f

/-- R210: `ADDW3`. -/
def execAddw3 (s : State) : Host.Outcome State Fault Refusal := runRule ruleAddw3 s

/-- R211: the cost rule of `ADWC`, cell "5". -/
def ruleAdwc : Rule := fun _ f => fixed { c := 5 } f

/-- R211: `ADWC`. -/
def execAdwc (s : State) : Host.Outcome State Fault Refusal := runRule ruleAdwc s

/-- R212: the cost rule of `ASHL`, cell "3-4, 4 typ". -/
def ruleAshl : Rule := fun _ f => ranged { c := 3 } { c := 4 } f

/-- R212: `ASHL`. -/
def execAshl (s : State) : Host.Outcome State Fault Refusal := runRule ruleAshl s

/-- R213: the cost rule of `ASHQ`, cell "4-7, 6 typ". -/
def ruleAshq : Rule := fun _ f => ranged { c := 4 } { c := 7 } f

/-- R213: `ASHQ`. -/
def execAshq (s : State) : Host.Outcome State Fault Refusal := runRule ruleAshq s

/-- R214: the cost rule of `BICB2`, cell "1". -/
def ruleBicb2 : Rule := fun _ f => fixed { c := 1 } f

/-- R214: `BICB2`. -/
def execBicb2 (s : State) : Host.Outcome State Fault Refusal := runRule ruleBicb2 s

/-- R215: the cost rule of `BICL2`, cell "1". -/
def ruleBicl2 : Rule := fun _ f => fixed { c := 1 } f

/-- R215: `BICL2`. -/
def execBicl2 (s : State) : Host.Outcome State Fault Refusal := runRule ruleBicl2 s

/-- R216: the cost rule of `BICW2`, cell "1". -/
def ruleBicw2 : Rule := fun _ f => fixed { c := 1 } f

/-- R216: `BICW2`. -/
def execBicw2 (s : State) : Host.Outcome State Fault Refusal := runRule ruleBicw2 s

/-- R217: the cost rule of `BICB3`, cell "1". -/
def ruleBicb3 : Rule := fun _ f => fixed { c := 1 } f

/-- R217: `BICB3`. -/
def execBicb3 (s : State) : Host.Outcome State Fault Refusal := runRule ruleBicb3 s

/-- R218: the cost rule of `BICL3`, cell "1". -/
def ruleBicl3 : Rule := fun _ f => fixed { c := 1 } f

/-- R218: `BICL3`. -/
def execBicl3 (s : State) : Host.Outcome State Fault Refusal := runRule ruleBicl3 s

/-- R219: the cost rule of `BICW3`, cell "1". -/
def ruleBicw3 : Rule := fun _ f => fixed { c := 1 } f

/-- R219: `BICW3`. -/
def execBicw3 (s : State) : Host.Outcome State Fault Refusal := runRule ruleBicw3 s

/-- R220: the cost rule of `BISB2`, cell "1". -/
def ruleBisb2 : Rule := fun _ f => fixed { c := 1 } f

/-- R220: `BISB2`. -/
def execBisb2 (s : State) : Host.Outcome State Fault Refusal := runRule ruleBisb2 s

/-- R221: the cost rule of `BISL2`, cell "1". -/
def ruleBisl2 : Rule := fun _ f => fixed { c := 1 } f

/-- R221: `BISL2`. -/
def execBisl2 (s : State) : Host.Outcome State Fault Refusal := runRule ruleBisl2 s

/-- R222: the cost rule of `BISW2`, cell "1". -/
def ruleBisw2 : Rule := fun _ f => fixed { c := 1 } f

/-- R222: `BISW2`. -/
def execBisw2 (s : State) : Host.Outcome State Fault Refusal := runRule ruleBisw2 s

/-- R223: the cost rule of `BISB3`, cell "1". -/
def ruleBisb3 : Rule := fun _ f => fixed { c := 1 } f

/-- R223: `BISB3`. -/
def execBisb3 (s : State) : Host.Outcome State Fault Refusal := runRule ruleBisb3 s

/-- R224: the cost rule of `BISL3`, cell "1". -/
def ruleBisl3 : Rule := fun _ f => fixed { c := 1 } f

/-- R224: `BISL3`. -/
def execBisl3 (s : State) : Host.Outcome State Fault Refusal := runRule ruleBisl3 s

/-- R225: the cost rule of `BISW3`, cell "1". -/
def ruleBisw3 : Rule := fun _ f => fixed { c := 1 } f

/-- R225: `BISW3`. -/
def execBisw3 (s : State) : Host.Outcome State Fault Refusal := runRule ruleBisw3 s

/-- R226: the cost rule of `BITB`, cell "1". -/
def ruleBitb : Rule := fun _ f => fixed { c := 1 } f

/-- R226: `BITB`. -/
def execBitb (s : State) : Host.Outcome State Fault Refusal := runRule ruleBitb s

/-- R227: the cost rule of `BITL`, cell "1". -/
def ruleBitl : Rule := fun _ f => fixed { c := 1 } f

/-- R227: `BITL`. -/
def execBitl (s : State) : Host.Outcome State Fault Refusal := runRule ruleBitl s

/-- R228: the cost rule of `BITW`, cell "1". -/
def ruleBitw : Rule := fun _ f => fixed { c := 1 } f

/-- R228: `BITW`. -/
def execBitw (s : State) : Host.Outcome State Fault Refusal := runRule ruleBitw s

/-- R229: the cost rule of `CLRB`, cell "1". -/
def ruleClrb : Rule := fun _ f => fixed { c := 1 } f

/-- R229: `CLRB`. -/
def execClrb (s : State) : Host.Outcome State Fault Refusal := runRule ruleClrb s

/-- R230: the cost rule of `CLRL`, cell "1". -/
def ruleClrl : Rule := fun _ f => fixed { c := 1 } f

/-- R230: `CLRL`. -/
def execClrl (s : State) : Host.Outcome State Fault Refusal := runRule ruleClrl s

/-- R231: the cost rule of `CLRQ`, cell "2". -/
def ruleClrq : Rule := fun _ f => fixed { c := 2 } f

/-- R231: `CLRQ`. -/
def execClrq (s : State) : Host.Outcome State Fault Refusal := runRule ruleClrq s

/-- R232: the cost rule of `CLRW`, cell "1". -/
def ruleClrw : Rule := fun _ f => fixed { c := 1 } f

/-- R232: `CLRW`. -/
def execClrw (s : State) : Host.Outcome State Fault Refusal := runRule ruleClrw s

/-- R233: the cost rule of `CMPB`, cell "1". -/
def ruleCmpb : Rule := fun _ f => fixed { c := 1 } f

/-- R233: `CMPB`. -/
def execCmpb (s : State) : Host.Outcome State Fault Refusal := runRule ruleCmpb s

/-- R234: the cost rule of `CMPL`, cell "1". -/
def ruleCmpl : Rule := fun _ f => fixed { c := 1 } f

/-- R234: `CMPL`. -/
def execCmpl (s : State) : Host.Outcome State Fault Refusal := runRule ruleCmpl s

/-- R235: the cost rule of `CMPW`, cell "1". -/
def ruleCmpw : Rule := fun _ f => fixed { c := 1 } f

/-- R235: `CMPW`. -/
def execCmpw (s : State) : Host.Outcome State Fault Refusal := runRule ruleCmpw s

/-- R236: the cost rule of `CVTBL`, cell "2". -/
def ruleCvtbl : Rule := fun _ f => fixed { c := 2 } f

/-- R236: `CVTBL`. -/
def execCvtbl (s : State) : Host.Outcome State Fault Refusal := runRule ruleCvtbl s

/-- R237: the cost rule of `CVTBW`, cell "2". -/
def ruleCvtbw : Rule := fun _ f => fixed { c := 2 } f

/-- R237: `CVTBW`. -/
def execCvtbw (s : State) : Host.Outcome State Fault Refusal := runRule ruleCvtbw s

/-- R238: the cost rule of `CVTLB`, cell "3". -/
def ruleCvtlb : Rule := fun _ f => fixed { c := 3 } f

/-- R238: `CVTLB`. -/
def execCvtlb (s : State) : Host.Outcome State Fault Refusal := runRule ruleCvtlb s

/-- R239: the cost rule of `CVTLW`, cell "3". -/
def ruleCvtlw : Rule := fun _ f => fixed { c := 3 } f

/-- R239: `CVTLW`. -/
def execCvtlw (s : State) : Host.Outcome State Fault Refusal := runRule ruleCvtlw s

/-- R240: the cost rule of `CVTWB`, cell "3". -/
def ruleCvtwb : Rule := fun _ f => fixed { c := 3 } f

/-- R240: `CVTWB`. -/
def execCvtwb (s : State) : Host.Outcome State Fault Refusal := runRule ruleCvtwb s

/-- R241: the cost rule of `CVTWL`, cell "2". -/
def ruleCvtwl : Rule := fun _ f => fixed { c := 2 } f

/-- R241: `CVTWL`. -/
def execCvtwl (s : State) : Host.Outcome State Fault Refusal := runRule ruleCvtwl s

/-- R242: the cost rule of `DECB`, cell "1". -/
def ruleDecb : Rule := fun _ f => fixed { c := 1 } f

/-- R242: `DECB`. -/
def execDecb (s : State) : Host.Outcome State Fault Refusal := runRule ruleDecb s

/-- R243: the cost rule of `DECL`, cell "1". -/
def ruleDecl : Rule := fun _ f => fixed { c := 1 } f

/-- R243: `DECL`. -/
def execDecl (s : State) : Host.Outcome State Fault Refusal := runRule ruleDecl s

/-- R244: the cost rule of `DECW`, cell "1". -/
def ruleDecw : Rule := fun _ f => fixed { c := 1 } f

/-- R244: `DECW`. -/
def execDecw (s : State) : Host.Outcome State Fault Refusal := runRule ruleDecw s

/-- R245: the cost rule of `DIVB2`, cell "15-19, 16 typ". -/
def ruleDivb2 : Rule := fun _ f => ranged { c := 15 } { c := 19 } f

/-- R245: `DIVB2`. -/
def execDivb2 (s : State) : Host.Outcome State Fault Refusal := runRule ruleDivb2 s

/-- R246: the cost rule of `DIVL2`, cell "39-43, 40 typ". -/
def ruleDivl2 : Rule := fun _ f => ranged { c := 39 } { c := 43 } f

/-- R246: `DIVL2`. -/
def execDivl2 (s : State) : Host.Outcome State Fault Refusal := runRule ruleDivl2 s

/-- R247: the cost rule of `DIVW2`, cell "23-27, 24 typ". -/
def ruleDivw2 : Rule := fun _ f => ranged { c := 23 } { c := 27 } f

/-- R247: `DIVW2`. -/
def execDivw2 (s : State) : Host.Outcome State Fault Refusal := runRule ruleDivw2 s

/-- R248: the cost rule of `DIVB3`, cell "15-19, 16 typ". -/
def ruleDivb3 : Rule := fun _ f => ranged { c := 15 } { c := 19 } f

/-- R248: `DIVB3`. -/
def execDivb3 (s : State) : Host.Outcome State Fault Refusal := runRule ruleDivb3 s

/-- R249: the cost rule of `DIVL3`, cell "39-43, 40 typ". -/
def ruleDivl3 : Rule := fun _ f => ranged { c := 39 } { c := 43 } f

/-- R249: `DIVL3`. -/
def execDivl3 (s : State) : Host.Outcome State Fault Refusal := runRule ruleDivl3 s

/-- R250: the cost rule of `DIVW3`, cell "23-27, 24 typ". -/
def ruleDivw3 : Rule := fun _ f => ranged { c := 23 } { c := 27 } f

/-- R250: `DIVW3`. -/
def execDivw3 (s : State) : Host.Outcome State Fault Refusal := runRule ruleDivw3 s

/-- R251: the cost rule of `EDIV`, cell "50-54+(rst), 52+(rst) typ". -/
def ruleEdiv : Rule := fun _ f => ranged { c := 50, rst := 1 } { c := 54, rst := 1 } f

/-- R251: `EDIV`. -/
def execEdiv (s : State) : Host.Outcome State Fault Refusal := runRule ruleEdiv s

/-- R252: the cost rule of `EMUL`, cell "37". -/
def ruleEmul : Rule := fun _ f => fixed { c := 37 } f

/-- R252: `EMUL`. -/
def execEmul (s : State) : Host.Outcome State Fault Refusal := runRule ruleEmul s

/-- R253: the cost rule of `INCB`, cell "1". -/
def ruleIncb : Rule := fun _ f => fixed { c := 1 } f

/-- R253: `INCB`. -/
def execIncb (s : State) : Host.Outcome State Fault Refusal := runRule ruleIncb s

/-- R254: the cost rule of `INCL`, cell "1". -/
def ruleIncl : Rule := fun _ f => fixed { c := 1 } f

/-- R254: `INCL`. -/
def execIncl (s : State) : Host.Outcome State Fault Refusal := runRule ruleIncl s

/-- R255: the cost rule of `INCW`, cell "1". -/
def ruleIncw : Rule := fun _ f => fixed { c := 1 } f

/-- R255: `INCW`. -/
def execIncw (s : State) : Host.Outcome State Fault Refusal := runRule ruleIncw s

/-- R256: the cost rule of `MCOMB`, cell "1". -/
def ruleMcomb : Rule := fun _ f => fixed { c := 1 } f

/-- R256: `MCOMB`. -/
def execMcomb (s : State) : Host.Outcome State Fault Refusal := runRule ruleMcomb s

/-- R257: the cost rule of `MCOML`, cell "1". -/
def ruleMcoml : Rule := fun _ f => fixed { c := 1 } f

/-- R257: `MCOML`. -/
def execMcoml (s : State) : Host.Outcome State Fault Refusal := runRule ruleMcoml s

/-- R258: the cost rule of `MCOMW`, cell "1". -/
def ruleMcomw : Rule := fun _ f => fixed { c := 1 } f

/-- R258: `MCOMW`. -/
def execMcomw (s : State) : Host.Outcome State Fault Refusal := runRule ruleMcomw s

/-- R259: the cost rule of `MNEGB`, cell "1". -/
def ruleMnegb : Rule := fun _ f => fixed { c := 1 } f

/-- R259: `MNEGB`. -/
def execMnegb (s : State) : Host.Outcome State Fault Refusal := runRule ruleMnegb s

/-- R260: the cost rule of `MNEGL`, cell "1". -/
def ruleMnegl : Rule := fun _ f => fixed { c := 1 } f

/-- R260: `MNEGL`. -/
def execMnegl (s : State) : Host.Outcome State Fault Refusal := runRule ruleMnegl s

/-- R261: the cost rule of `MNEGW`, cell "1". -/
def ruleMnegw : Rule := fun _ f => fixed { c := 1 } f

/-- R261: `MNEGW`. -/
def execMnegw (s : State) : Host.Outcome State Fault Refusal := runRule ruleMnegw s

/-- R262: the cost rule of `MOVB`, cell "1". -/
def ruleMovb : Rule := fun _ f => fixed { c := 1 } f

/-- R262: `MOVB`. -/
def execMovb (s : State) : Host.Outcome State Fault Refusal := runRule ruleMovb s

/-- R263: the cost rule of `MOVL`, cell "1". -/
def ruleMovl : Rule := fun _ f => fixed { c := 1 } f

/-- R263: `MOVL`. -/
def execMovl (s : State) : Host.Outcome State Fault Refusal := runRule ruleMovl s

/-- R264: the cost rule of `MOVQ`, cell "1". -/
def ruleMovq : Rule := fun _ f => fixed { c := 1 } f

/-- R264: `MOVQ`. -/
def execMovq (s : State) : Host.Outcome State Fault Refusal := runRule ruleMovq s

/-- R265: the cost rule of `MOVW`, cell "1". -/
def ruleMovw : Rule := fun _ f => fixed { c := 1 } f

/-- R265: `MOVW`. -/
def execMovw (s : State) : Host.Outcome State Fault Refusal := runRule ruleMovw s

/-- R266: the cost rule of `MOVZBW`, cell "1". -/
def ruleMovzbw : Rule := fun _ f => fixed { c := 1 } f

/-- R266: `MOVZBW`. -/
def execMovzbw (s : State) : Host.Outcome State Fault Refusal := runRule ruleMovzbw s

/-- R267: the cost rule of `MOVZBL`, cell "1". -/
def ruleMovzbl : Rule := fun _ f => fixed { c := 1 } f

/-- R267: `MOVZBL`. -/
def execMovzbl (s : State) : Host.Outcome State Fault Refusal := runRule ruleMovzbl s

/-- R268: the cost rule of `MOVZWL`, cell "1". -/
def ruleMovzwl : Rule := fun _ f => fixed { c := 1 } f

/-- R268: `MOVZWL`. -/
def execMovzwl (s : State) : Host.Outcome State Fault Refusal := runRule ruleMovzwl s

/-- R269: the cost rule of `MULB2`, cell "14-15, 14 typ". -/
def ruleMulb2 : Rule := fun _ f => ranged { c := 14 } { c := 15 } f

/-- R269: `MULB2`. -/
def execMulb2 (s : State) : Host.Outcome State Fault Refusal := runRule ruleMulb2 s

/-- R270: the cost rule of `MULL2`, cell "38 w/o FPA"; "tbd with FPA". -/
def ruleMull2 : Rule := fun p f =>
  if p.hasFpa then tbdCell .mull2 p f else fixed { c := 38 } f

/-- R270: `MULL2`. -/
def execMull2 (s : State) : Host.Outcome State Fault Refusal := runRule ruleMull2 s

/-- R271: the cost rule of `MULW2`, cell "21-22, 21 typ". -/
def ruleMulw2 : Rule := fun _ f => ranged { c := 21 } { c := 22 } f

/-- R271: `MULW2`. -/
def execMulw2 (s : State) : Host.Outcome State Fault Refusal := runRule ruleMulw2 s

/-- R272: the cost rule of `MULB3`, cell "14-15, 14 typ". -/
def ruleMulb3 : Rule := fun _ f => ranged { c := 14 } { c := 15 } f

/-- R272: `MULB3`. -/
def execMulb3 (s : State) : Host.Outcome State Fault Refusal := runRule ruleMulb3 s

/-- R273: the cost rule of `MULL3`, cell "38 w/o FPA"; "tbd with FPA". -/
def ruleMull3 : Rule := fun p f =>
  if p.hasFpa then tbdCell .mull3 p f else fixed { c := 38 } f

/-- R273: `MULL3`. -/
def execMull3 (s : State) : Host.Outcome State Fault Refusal := runRule ruleMull3 s

/-- R274: the cost rule of `MULW3`, cell "21-22, 21 typ". -/
def ruleMulw3 : Rule := fun _ f => ranged { c := 21 } { c := 22 } f

/-- R274: `MULW3`. -/
def execMulw3 (s : State) : Host.Outcome State Fault Refusal := runRule ruleMulw3 s

/-- R275: the cost rule of `PUSHL`, cell "1". -/
def rulePushl : Rule := fun _ f => fixed { c := 1 } f

/-- R275: `PUSHL`. -/
def execPushl (s : State) : Host.Outcome State Fault Refusal := runRule rulePushl s

/-- R276: the cost rule of `ROTL`, cell "2". -/
def ruleRotl : Rule := fun _ f => fixed { c := 2 } f

/-- R276: `ROTL`. -/
def execRotl (s : State) : Host.Outcome State Fault Refusal := runRule ruleRotl s

/-- R277: the cost rule of `SBWC`, cell "5". -/
def ruleSbwc : Rule := fun _ f => fixed { c := 5 } f

/-- R277: `SBWC`. -/
def execSbwc (s : State) : Host.Outcome State Fault Refusal := runRule ruleSbwc s

/-- R278: the cost rule of `SUBB2`, cell "1". -/
def ruleSubb2 : Rule := fun _ f => fixed { c := 1 } f

/-- R278: `SUBB2`. -/
def execSubb2 (s : State) : Host.Outcome State Fault Refusal := runRule ruleSubb2 s

/-- R279: the cost rule of `SUBL2`, cell "1". -/
def ruleSubl2 : Rule := fun _ f => fixed { c := 1 } f

/-- R279: `SUBL2`. -/
def execSubl2 (s : State) : Host.Outcome State Fault Refusal := runRule ruleSubl2 s

/-- R280: the cost rule of `SUBW2`, cell "1". -/
def ruleSubw2 : Rule := fun _ f => fixed { c := 1 } f

/-- R280: `SUBW2`. -/
def execSubw2 (s : State) : Host.Outcome State Fault Refusal := runRule ruleSubw2 s

/-- R281: the cost rule of `SUBB3`, cell "1". -/
def ruleSubb3 : Rule := fun _ f => fixed { c := 1 } f

/-- R281: `SUBB3`. -/
def execSubb3 (s : State) : Host.Outcome State Fault Refusal := runRule ruleSubb3 s

/-- R282: the cost rule of `SUBL3`, cell "1". -/
def ruleSubl3 : Rule := fun _ f => fixed { c := 1 } f

/-- R282: `SUBL3`. -/
def execSubl3 (s : State) : Host.Outcome State Fault Refusal := runRule ruleSubl3 s

/-- R283: the cost rule of `SUBW3`, cell "1". -/
def ruleSubw3 : Rule := fun _ f => fixed { c := 1 } f

/-- R283: `SUBW3`. -/
def execSubw3 (s : State) : Host.Outcome State Fault Refusal := runRule ruleSubw3 s

/-- R284: the cost rule of `TSTB`, cell "1". -/
def ruleTstb : Rule := fun _ f => fixed { c := 1 } f

/-- R284: `TSTB`. -/
def execTstb (s : State) : Host.Outcome State Fault Refusal := runRule ruleTstb s

/-- R285: the cost rule of `TSTL`, cell "1". -/
def ruleTstl : Rule := fun _ f => fixed { c := 1 } f

/-- R285: `TSTL`. -/
def execTstl (s : State) : Host.Outcome State Fault Refusal := runRule ruleTstl s

/-- R286: the cost rule of `TSTW`, cell "1". -/
def ruleTstw : Rule := fun _ f => fixed { c := 1 } f

/-- R286: `TSTW`. -/
def execTstw (s : State) : Host.Outcome State Fault Refusal := runRule ruleTstw s

/-- R287: the cost rule of `XORB2`, cell "1". -/
def ruleXorb2 : Rule := fun _ f => fixed { c := 1 } f

/-- R287: `XORB2`. -/
def execXorb2 (s : State) : Host.Outcome State Fault Refusal := runRule ruleXorb2 s

/-- R288: the cost rule of `XORL2`, cell "1". -/
def ruleXorl2 : Rule := fun _ f => fixed { c := 1 } f

/-- R288: `XORL2`. -/
def execXorl2 (s : State) : Host.Outcome State Fault Refusal := runRule ruleXorl2 s

/-- R289: the cost rule of `XORW2`, cell "1". -/
def ruleXorw2 : Rule := fun _ f => fixed { c := 1 } f

/-- R289: `XORW2`. -/
def execXorw2 (s : State) : Host.Outcome State Fault Refusal := runRule ruleXorw2 s

/-- R290: the cost rule of `XORB3`, cell "1". -/
def ruleXorb3 : Rule := fun _ f => fixed { c := 1 } f

/-- R290: `XORB3`. -/
def execXorb3 (s : State) : Host.Outcome State Fault Refusal := runRule ruleXorb3 s

/-- R291: the cost rule of `XORL3`, cell "1". -/
def ruleXorl3 : Rule := fun _ f => fixed { c := 1 } f

/-- R291: `XORL3`. -/
def execXorl3 (s : State) : Host.Outcome State Fault Refusal := runRule ruleXorl3 s

/-- R292: the cost rule of `XORW3`, cell "1". -/
def ruleXorw3 : Rule := fun _ f => fixed { c := 1 } f

/-- R292: `XORW3`. -/
def execXorw3 (s : State) : Host.Outcome State Fault Refusal := runRule ruleXorw3 s

end Sys2Proof.Machine
end

