-- ==== Sys2Proof/Machine/Miscellaneous.lean ====
section
/-! DEFINITION. Miscellaneous instructions (R380 to R391): `n` set bits of the register mask (R380), `rst` on POPR and PUSHR only (R381), BPT and XFC cost what an exception costs (R603).
Each row has its cost rule, from the rule's pseudocode, and its meaning, that rule applied to the event at `pos`. -/

namespace Sys2Proof.Machine

open Sys2Proof

/-- R382: the cost rule of `BICPSW`, cell "5". -/
def ruleBicpsw : Rule := fun _ f => fixed { c := 5 } f

/-- R382: `BICPSW`. -/
def execBicpsw (s : State) : Host.Outcome State Fault Refusal := runRule ruleBicpsw s

/-- R383: the cost rule of `BISPSW`, cell "5". -/
def ruleBispsw : Rule := fun _ f => fixed { c := 5 } f

/-- R383: `BISPSW`. -/
def execBispsw (s : State) : Host.Outcome State Fault Refusal := runRule ruleBispsw s

/-- R384: the cost rule of `BPT`, cell "exception". -/
def ruleBpt : Rule := exceptionRule

/-- R384: `BPT`. -/
def execBpt (s : State) : Host.Outcome State Fault Refusal := initiateException s

/-- R385: the cost rule of `HALT`, cell "3". -/
def ruleHalt : Rule := fun _ f => fixed { c := 3 } f

/-- R385: `HALT`. -/
def execHalt (s : State) : Host.Outcome State Fault Refusal := runRule ruleHalt s

/-- R386: the cost rule of `INDEX`, cell "6"; "39". -/
def ruleIndex : Rule := fun _ f =>
  if f.sizeIsOne then fixed { c := 6 } f
  else fixed { c := 39 } f

/-- R386: `INDEX`. -/
def execIndex (s : State) : Host.Outcome State Fault Refusal := runRule ruleIndex s

/-- R387: the cost rule of `MOVPSL`, cell "3". -/
def ruleMovpsl : Rule := fun _ f => fixed { c := 3 } f

/-- R387: `MOVPSL`. -/
def execMovpsl (s : State) : Host.Outcome State Fault Refusal := runRule ruleMovpsl s

/-- R388: the cost rule of `NOP`, cell "1". -/
def ruleNop : Rule := fun _ f => fixed { c := 1 } f

/-- R388: `NOP`. -/
def execNop (s : State) : Host.Outcome State Fault Refusal := runRule ruleNop s

/-- R389: the cost rule of `POPR`, cell "10+nr+(rst)". -/
def rulePopr : Rule := fun _ f => fixed { c := 10, r := f.n, rst := 1 } f

/-- R389: `POPR`. -/
def execPopr (s : State) : Host.Outcome State Fault Refusal := runRule rulePopr s

/-- R390: the cost rule of `PUSHR`, cell "7+nw+(rst)". -/
def rulePushr : Rule := fun _ f => fixed { c := 7, w := f.n, rst := 1 } f

/-- R390: `PUSHR`. -/
def execPushr (s : State) : Host.Outcome State Fault Refusal := runRule rulePushr s

/-- R391: the cost rule of `XFC`, cell "exception". -/
def ruleXfc : Rule := exceptionRule

/-- R391: `XFC`. -/
def execXfc (s : State) : Host.Outcome State Fault Refusal := initiateException s

end Sys2Proof.Machine
end

