-- ==== Sys2Proof/Machine/OperatingSystem.lean ====
section
/-! DEFINITION. Operating system support instructions (R430 to R442): `rst` on LDPCTX, SVPCTX, MTPR and MFPR (R430); CHMx costs the same at every mode (R607).
Each row has its cost rule, from the rule's pseudocode, and its meaning, that rule applied to the event at `pos`. -/

namespace Sys2Proof.Machine

open Sys2Proof

/-- R432: the cost rule of `CHME`, cell "12+1r+3w". -/
def ruleChme : Rule := fun _ f => fixed { c := 12, r := 1, w := 3 } f

/-- R432: `CHME`. -/
def execChme (s : State) : Host.Outcome State Fault Refusal := runRule ruleChme s

/-- R433: the cost rule of `CHMK`, cell "12+1r+3w". -/
def ruleChmk : Rule := fun _ f => fixed { c := 12, r := 1, w := 3 } f

/-- R433: `CHMK`. -/
def execChmk (s : State) : Host.Outcome State Fault Refusal := runRule ruleChmk s

/-- R434: the cost rule of `CHMS`, cell "12+1r+3w". -/
def ruleChms : Rule := fun _ f => fixed { c := 12, r := 1, w := 3 } f

/-- R434: `CHMS`. -/
def execChms (s : State) : Host.Outcome State Fault Refusal := runRule ruleChms s

/-- R435: the cost rule of `CHMU`, cell "12+1r+3w". -/
def ruleChmu : Rule := fun _ f => fixed { c := 12, r := 1, w := 3 } f

/-- R435: `CHMU`. -/
def execChmu (s : State) : Host.Outcome State Fault Refusal := runRule ruleChmu s

/-- R436: the cost rule of `LDPCTX`, cell "22+24r+2w+(rst) - 25+24r+2w+(rst)". -/
def ruleLdpctx : Rule := fun _ f => ranged { c := 22, r := 24, w := 2, rst := 1 } { c := 25, r := 24, w := 2, rst := 1 } f

/-- R436: `LDPCTX`. -/
def execLdpctx (s : State) : Host.Outcome State Fault Refusal := runRule ruleLdpctx s

/-- R437: the cost rule of `MFPR`, cell "7-15+(rst), 10+(rst) typ". -/
def ruleMfpr : Rule := fun _ f => ranged { c := 7, rst := 1 } { c := 15, rst := 1 } f

/-- R437: `MFPR`. -/
def execMfpr (s : State) : Host.Outcome State Fault Refusal := runRule ruleMfpr s

/-- R438: the cost rule of `MTPR`, cell "7-15+(rst), 8+(rst) typ". -/
def ruleMtpr : Rule := fun _ f => ranged { c := 7, rst := 1 } { c := 15, rst := 1 } f

/-- R438: `MTPR`. -/
def execMtpr (s : State) : Host.Outcome State Fault Refusal := runRule ruleMtpr s

/-- R439: the cost rule of `PROBER`, cell "11-12, 11 typ". -/
def ruleProber : Rule := fun _ f => ranged { c := 11 } { c := 12 } f

/-- R439: `PROBER`. -/
def execProber (s : State) : Host.Outcome State Fault Refusal := runRule ruleProber s

/-- R440: the cost rule of `PROBEW`, cell "11-12, 11 typ". -/
def ruleProbew : Rule := fun _ f => ranged { c := 11 } { c := 12 } f

/-- R440: `PROBEW`. -/
def execProbew (s : State) : Host.Outcome State Fault Refusal := runRule ruleProbew s

/-- R441: the cost rule of `REI`, cell "16-21, 17 typ". -/
def ruleRei : Rule := returnRule

/-- R441: `REI`. -/
def execRei (s : State) : Host.Outcome State Fault Refusal := runRule ruleRei s

/-- R442: the cost rule of `SVPCTX`, cell "8+2r+20w+(rst) - 13+2r+20w+(rst), 12+2r+20w+(rst) typ". -/
def ruleSvpctx : Rule := fun _ f => ranged { c := 8, r := 2, w := 20, rst := 1 } { c := 13, r := 2, w := 20, rst := 1 } f

/-- R442: `SVPCTX`. -/
def execSvpctx (s : State) : Host.Outcome State Fault Refusal := runRule ruleSvpctx s

end Sys2Proof.Machine
end

