-- ==== Sys2Proof/Machine/Procedure.lean ====
section
/-! DEFINITION. Procedure call instructions (R370 to R375): `n` set bits of the call mask (R370), `rst` on every instance (R371).
Each row has its cost rule, from the rule's pseudocode, and its meaning, that rule applied to the event at `pos`. -/

namespace Sys2Proof.Machine

open Sys2Proof

/-- R373: the cost rule of `CALLG`, cell "12-13+(n+4)w+(rst), 12+(n+4)w+(rst) typ". -/
def ruleCallg : Rule := fun _ f => ranged { c := 12, w := 4 + f.n, rst := 1 } { c := 13, w := 4 + f.n, rst := 1 } f

/-- R373: `CALLG`. -/
def execCallg (s : State) : Host.Outcome State Fault Refusal := runRule ruleCallg s

/-- R374: the cost rule of `CALLS`, cell "12-13+(n+5)w+(rst), 12+(n+5)w+(rst) typ". -/
def ruleCalls : Rule := fun _ f => ranged { c := 12, w := 5 + f.n, rst := 1 } { c := 13, w := 5 + f.n, rst := 1 } f

/-- R374: `CALLS`. -/
def execCalls (s : State) : Host.Outcome State Fault Refusal := runRule ruleCalls s

/-- R375: the cost rule of `RET`, cell "8+(n+2)r+(rst)"; "9+(n+3)r+(rst)". -/
def ruleRet : Rule := fun _ f =>
  if f.frameKind = .G then fixed { c := 8, r := 2 + f.n, rst := 1 } f
  else fixed { c := 9, r := 3 + f.n, rst := 1 } f

/-- R375: `RET`. -/
def execRet (s : State) : Host.Outcome State Fault Refusal := runRule ruleRet s

end Sys2Proof.Machine
end

