-- ==== Sys2Proof/Machine/Queue.lean ====
section
/-! DEFINITION. Queue instructions (R400 to R406): fixed cells with counted reads and writes.
Each row has its cost rule, from the rule's pseudocode, and its meaning, that rule applied to the event at `pos`. -/

namespace Sys2Proof.Machine

open Sys2Proof

/-- R401: the cost rule of `INSQHI`, cell "10+2r+5w". -/
def ruleInsqhi : Rule := fun _ f => fixed { c := 10, r := 2, w := 5 } f

/-- R401: `INSQHI`. -/
def execInsqhi (s : State) : Host.Outcome State Fault Refusal := runRule ruleInsqhi s

/-- R402: the cost rule of `INSQTI`, cell "11+3r+6w". -/
def ruleInsqti : Rule := fun _ f => fixed { c := 11, r := 3, w := 6 } f

/-- R402: `INSQTI`. -/
def execInsqti (s : State) : Host.Outcome State Fault Refusal := runRule ruleInsqti s

/-- R403: the cost rule of `INSQUE`, cell "3+1r+4w". -/
def ruleInsque : Rule := fun _ f => fixed { c := 3, r := 1, w := 4 } f

/-- R403: `INSQUE`. -/
def execInsque (s : State) : Host.Outcome State Fault Refusal := runRule ruleInsque s

/-- R404: the cost rule of `REMQHI`, cell "14+3r+3w". -/
def ruleRemqhi : Rule := fun _ f => fixed { c := 14, r := 3, w := 3 } f

/-- R404: `REMQHI`. -/
def execRemqhi (s : State) : Host.Outcome State Fault Refusal := runRule ruleRemqhi s

/-- R405: the cost rule of `REMQTI`, cell "16+4r+4w". -/
def ruleRemqti : Rule := fun _ f => fixed { c := 16, r := 4, w := 4 } f

/-- R405: `REMQTI`. -/
def execRemqti (s : State) : Host.Outcome State Fault Refusal := runRule ruleRemqti s

/-- R406: the cost rule of `REMQUE`, cell "5+2r+2w". -/
def ruleRemque : Rule := fun _ f => fixed { c := 5, r := 2, w := 2 } f

/-- R406: `REMQUE`. -/
def execRemque (s : State) : Host.Outcome State Fault Refusal := runRule ruleRemque s

end Sys2Proof.Machine
end

