-- ==== Sys2Proof/Machine/Dispatch.lean ====
section
/-! DEFINITION. The dispatch of an instruction to its meaning: one arm for each constructor of Instr. -/

namespace Sys2Proof.Machine

open Sys2Proof

def exec (i : Instr) (s : State) : Host.Outcome State Fault Refusal :=
  match i with
  -- 40_integer_arithmetic_logical
  | .adawi => Sys2Proof.Machine.execAdawi s
  | .addb2 => Sys2Proof.Machine.execAddb2 s
  | .addl2 => Sys2Proof.Machine.execAddl2 s
  | .addw2 => Sys2Proof.Machine.execAddw2 s
  | .addb3 => Sys2Proof.Machine.execAddb3 s
  | .addl3 => Sys2Proof.Machine.execAddl3 s
  | .addw3 => Sys2Proof.Machine.execAddw3 s
  | .adwc => Sys2Proof.Machine.execAdwc s
  | .ashl => Sys2Proof.Machine.execAshl s
  | .ashq => Sys2Proof.Machine.execAshq s
  | .bicb2 => Sys2Proof.Machine.execBicb2 s
  | .bicl2 => Sys2Proof.Machine.execBicl2 s
  | .bicw2 => Sys2Proof.Machine.execBicw2 s
  | .bicb3 => Sys2Proof.Machine.execBicb3 s
  | .bicl3 => Sys2Proof.Machine.execBicl3 s
  | .bicw3 => Sys2Proof.Machine.execBicw3 s
  | .bisb2 => Sys2Proof.Machine.execBisb2 s
  | .bisl2 => Sys2Proof.Machine.execBisl2 s
  | .bisw2 => Sys2Proof.Machine.execBisw2 s
  | .bisb3 => Sys2Proof.Machine.execBisb3 s
  | .bisl3 => Sys2Proof.Machine.execBisl3 s
  | .bisw3 => Sys2Proof.Machine.execBisw3 s
  | .bitb => Sys2Proof.Machine.execBitb s
  | .bitl => Sys2Proof.Machine.execBitl s
  | .bitw => Sys2Proof.Machine.execBitw s
  | .clrb => Sys2Proof.Machine.execClrb s
  | .clrl => Sys2Proof.Machine.execClrl s
  | .clrq => Sys2Proof.Machine.execClrq s
  | .clrw => Sys2Proof.Machine.execClrw s
  | .cmpb => Sys2Proof.Machine.execCmpb s
  | .cmpl => Sys2Proof.Machine.execCmpl s
  | .cmpw => Sys2Proof.Machine.execCmpw s
  | .cvtbl => Sys2Proof.Machine.execCvtbl s
  | .cvtbw => Sys2Proof.Machine.execCvtbw s
  | .cvtlb => Sys2Proof.Machine.execCvtlb s
  | .cvtlw => Sys2Proof.Machine.execCvtlw s
  | .cvtwb => Sys2Proof.Machine.execCvtwb s
  | .cvtwl => Sys2Proof.Machine.execCvtwl s
  | .decb => Sys2Proof.Machine.execDecb s
  | .decl => Sys2Proof.Machine.execDecl s
  | .decw => Sys2Proof.Machine.execDecw s
  | .divb2 => Sys2Proof.Machine.execDivb2 s
  | .divl2 => Sys2Proof.Machine.execDivl2 s
  | .divw2 => Sys2Proof.Machine.execDivw2 s
  | .divb3 => Sys2Proof.Machine.execDivb3 s
  | .divl3 => Sys2Proof.Machine.execDivl3 s
  | .divw3 => Sys2Proof.Machine.execDivw3 s
  | .ediv => Sys2Proof.Machine.execEdiv s
  | .emul => Sys2Proof.Machine.execEmul s
  | .incb => Sys2Proof.Machine.execIncb s
  | .incl => Sys2Proof.Machine.execIncl s
  | .incw => Sys2Proof.Machine.execIncw s
  | .mcomb => Sys2Proof.Machine.execMcomb s
  | .mcoml => Sys2Proof.Machine.execMcoml s
  | .mcomw => Sys2Proof.Machine.execMcomw s
  | .mnegb => Sys2Proof.Machine.execMnegb s
  | .mnegl => Sys2Proof.Machine.execMnegl s
  | .mnegw => Sys2Proof.Machine.execMnegw s
  | .movb => Sys2Proof.Machine.execMovb s
  | .movl => Sys2Proof.Machine.execMovl s
  | .movq => Sys2Proof.Machine.execMovq s
  | .movw => Sys2Proof.Machine.execMovw s
  | .movzbw => Sys2Proof.Machine.execMovzbw s
  | .movzbl => Sys2Proof.Machine.execMovzbl s
  | .movzwl => Sys2Proof.Machine.execMovzwl s
  | .mulb2 => Sys2Proof.Machine.execMulb2 s
  | .mull2 => Sys2Proof.Machine.execMull2 s
  | .mulw2 => Sys2Proof.Machine.execMulw2 s
  | .mulb3 => Sys2Proof.Machine.execMulb3 s
  | .mull3 => Sys2Proof.Machine.execMull3 s
  | .mulw3 => Sys2Proof.Machine.execMulw3 s
  | .pushl => Sys2Proof.Machine.execPushl s
  | .rotl => Sys2Proof.Machine.execRotl s
  | .sbwc => Sys2Proof.Machine.execSbwc s
  | .subb2 => Sys2Proof.Machine.execSubb2 s
  | .subl2 => Sys2Proof.Machine.execSubl2 s
  | .subw2 => Sys2Proof.Machine.execSubw2 s
  | .subb3 => Sys2Proof.Machine.execSubb3 s
  | .subl3 => Sys2Proof.Machine.execSubl3 s
  | .subw3 => Sys2Proof.Machine.execSubw3 s
  | .tstb => Sys2Proof.Machine.execTstb s
  | .tstl => Sys2Proof.Machine.execTstl s
  | .tstw => Sys2Proof.Machine.execTstw s
  | .xorb2 => Sys2Proof.Machine.execXorb2 s
  | .xorl2 => Sys2Proof.Machine.execXorl2 s
  | .xorw2 => Sys2Proof.Machine.execXorw2 s
  | .xorb3 => Sys2Proof.Machine.execXorb3 s
  | .xorl3 => Sys2Proof.Machine.execXorl3 s
  | .xorw3 => Sys2Proof.Machine.execXorw3 s
  -- 41_address_and_bit_field
  | .movab => Sys2Proof.Machine.execMovab s
  | .moval => Sys2Proof.Machine.execMoval s
  | .movaq => Sys2Proof.Machine.execMovaq s
  | .movaw => Sys2Proof.Machine.execMovaw s
  | .pushab => Sys2Proof.Machine.execPushab s
  | .pushal => Sys2Proof.Machine.execPushal s
  | .pushaq => Sys2Proof.Machine.execPushaq s
  | .pushaw => Sys2Proof.Machine.execPushaw s
  | .cmpv => Sys2Proof.Machine.execCmpv s
  | .cmpzv => Sys2Proof.Machine.execCmpzv s
  | .extv => Sys2Proof.Machine.execExtv s
  | .extzv => Sys2Proof.Machine.execExtzv s
  | .insv => Sys2Proof.Machine.execInsv s
  | .ffc => Sys2Proof.Machine.execFfc s
  | .ffs => Sys2Proof.Machine.execFfs s
  -- 42_control
  | .acbb => Sys2Proof.Machine.execAcbb s
  | .acbl => Sys2Proof.Machine.execAcbl s
  | .acbw => Sys2Proof.Machine.execAcbw s
  | .aobleq => Sys2Proof.Machine.execAobleq s
  | .aoblss => Sys2Proof.Machine.execAoblss s
  | .bcc => Sys2Proof.Machine.execBcc s
  | .bcs => Sys2Proof.Machine.execBcs s
  | .beql => Sys2Proof.Machine.execBeql s
  | .bgeq => Sys2Proof.Machine.execBgeq s
  | .bgtr => Sys2Proof.Machine.execBgtr s
  | .bgtru => Sys2Proof.Machine.execBgtru s
  | .bleq => Sys2Proof.Machine.execBleq s
  | .blequ => Sys2Proof.Machine.execBlequ s
  | .blss => Sys2Proof.Machine.execBlss s
  | .bneq => Sys2Proof.Machine.execBneq s
  | .bvc => Sys2Proof.Machine.execBvc s
  | .bvs => Sys2Proof.Machine.execBvs s
  | .bbc => Sys2Proof.Machine.execBbc s
  | .bbs => Sys2Proof.Machine.execBbs s
  | .bbcc => Sys2Proof.Machine.execBbcc s
  | .bbcs => Sys2Proof.Machine.execBbcs s
  | .bbsc => Sys2Proof.Machine.execBbsc s
  | .bbss => Sys2Proof.Machine.execBbss s
  | .bbcci => Sys2Proof.Machine.execBbcci s
  | .bbssi => Sys2Proof.Machine.execBbssi s
  | .blbc => Sys2Proof.Machine.execBlbc s
  | .blbs => Sys2Proof.Machine.execBlbs s
  | .brb => Sys2Proof.Machine.execBrb s
  | .brw => Sys2Proof.Machine.execBrw s
  | .bsbb => Sys2Proof.Machine.execBsbb s
  | .bsbw => Sys2Proof.Machine.execBsbw s
  | .caseb => Sys2Proof.Machine.execCaseb s
  | .casel => Sys2Proof.Machine.execCasel s
  | .casew => Sys2Proof.Machine.execCasew s
  | .jmp => Sys2Proof.Machine.execJmp s
  | .jsb => Sys2Proof.Machine.execJsb s
  | .rsb => Sys2Proof.Machine.execRsb s
  | .sobgeq => Sys2Proof.Machine.execSobgeq s
  | .sobgtr => Sys2Proof.Machine.execSobgtr s
  -- 43_procedure_call
  | .callg => Sys2Proof.Machine.execCallg s
  | .calls => Sys2Proof.Machine.execCalls s
  | .ret => Sys2Proof.Machine.execRet s
  -- 44_miscellaneous
  | .bicpsw => Sys2Proof.Machine.execBicpsw s
  | .bispsw => Sys2Proof.Machine.execBispsw s
  | .bpt => Sys2Proof.Machine.execBpt s
  | .halt => Sys2Proof.Machine.execHalt s
  | .index => Sys2Proof.Machine.execIndex s
  | .movpsl => Sys2Proof.Machine.execMovpsl s
  | .nop => Sys2Proof.Machine.execNop s
  | .popr => Sys2Proof.Machine.execPopr s
  | .pushr => Sys2Proof.Machine.execPushr s
  | .xfc => Sys2Proof.Machine.execXfc s
  -- 45_queue
  | .insqhi => Sys2Proof.Machine.execInsqhi s
  | .insqti => Sys2Proof.Machine.execInsqti s
  | .insque => Sys2Proof.Machine.execInsque s
  | .remqhi => Sys2Proof.Machine.execRemqhi s
  | .remqti => Sys2Proof.Machine.execRemqti s
  | .remque => Sys2Proof.Machine.execRemque s
  -- 46_character_string
  | .cmpc3 => Sys2Proof.Machine.execCmpc3 s
  | .cmpc5 => Sys2Proof.Machine.execCmpc5 s
  | .locc => Sys2Proof.Machine.execLocc s
  | .movc3 => Sys2Proof.Machine.execMovc3 s
  | .movc5 => Sys2Proof.Machine.execMovc5 s
  | .scanc => Sys2Proof.Machine.execScanc s
  | .skpc => Sys2Proof.Machine.execSkpc s
  | .spanc => Sys2Proof.Machine.execSpanc s
  -- 47_operating_system
  | .chme => Sys2Proof.Machine.execChme s
  | .chmk => Sys2Proof.Machine.execChmk s
  | .chms => Sys2Proof.Machine.execChms s
  | .chmu => Sys2Proof.Machine.execChmu s
  | .ldpctx => Sys2Proof.Machine.execLdpctx s
  | .mfpr => Sys2Proof.Machine.execMfpr s
  | .mtpr => Sys2Proof.Machine.execMtpr s
  | .prober => Sys2Proof.Machine.execProber s
  | .probew => Sys2Proof.Machine.execProbew s
  | .rei => Sys2Proof.Machine.execRei s
  | .svpctx => Sys2Proof.Machine.execSvpctx s
  -- 48_floating_point
  | .addd2 => Sys2Proof.Machine.execAddd2 s
  | .addf2 => Sys2Proof.Machine.execAddf2 s
  | .addg2 => Sys2Proof.Machine.execAddg2 s
  | .addd3 => Sys2Proof.Machine.execAddd3 s
  | .addf3 => Sys2Proof.Machine.execAddf3 s
  | .addg3 => Sys2Proof.Machine.execAddg3 s
  | .cmpd => Sys2Proof.Machine.execCmpd s
  | .cmpf => Sys2Proof.Machine.execCmpf s
  | .cmpg => Sys2Proof.Machine.execCmpg s
  | .cvtbd => Sys2Proof.Machine.execCvtbd s
  | .cvtbf => Sys2Proof.Machine.execCvtbf s
  | .cvtbg => Sys2Proof.Machine.execCvtbg s
  | .cvtdb => Sys2Proof.Machine.execCvtdb s
  | .cvtdf => Sys2Proof.Machine.execCvtdf s
  | .cvtdl => Sys2Proof.Machine.execCvtdl s
  | .cvtdw => Sys2Proof.Machine.execCvtdw s
  | .cvtfb => Sys2Proof.Machine.execCvtfb s
  | .cvtfd => Sys2Proof.Machine.execCvtfd s
  | .cvtfg => Sys2Proof.Machine.execCvtfg s
  | .cvtfl => Sys2Proof.Machine.execCvtfl s
  | .cvtfw => Sys2Proof.Machine.execCvtfw s
  | .cvtgb => Sys2Proof.Machine.execCvtgb s
  | .cvtgf => Sys2Proof.Machine.execCvtgf s
  | .cvtgl => Sys2Proof.Machine.execCvtgl s
  | .cvtgw => Sys2Proof.Machine.execCvtgw s
  | .cvtld => Sys2Proof.Machine.execCvtld s
  | .cvtlf => Sys2Proof.Machine.execCvtlf s
  | .cvtlg => Sys2Proof.Machine.execCvtlg s
  | .cvtwd => Sys2Proof.Machine.execCvtwd s
  | .cvtwf => Sys2Proof.Machine.execCvtwf s
  | .cvtwg => Sys2Proof.Machine.execCvtwg s
  | .cvtrdl => Sys2Proof.Machine.execCvtrdl s
  | .cvtrfl => Sys2Proof.Machine.execCvtrfl s
  | .cvtrgl => Sys2Proof.Machine.execCvtrgl s
  | .divd2 => Sys2Proof.Machine.execDivd2 s
  | .divf2 => Sys2Proof.Machine.execDivf2 s
  | .divg2 => Sys2Proof.Machine.execDivg2 s
  | .divd3 => Sys2Proof.Machine.execDivd3 s
  | .divf3 => Sys2Proof.Machine.execDivf3 s
  | .divg3 => Sys2Proof.Machine.execDivg3 s
  | .mnegd => Sys2Proof.Machine.execMnegd s
  | .mnegf => Sys2Proof.Machine.execMnegf s
  | .mnegg => Sys2Proof.Machine.execMnegg s
  | .movd => Sys2Proof.Machine.execMovd s
  | .movf => Sys2Proof.Machine.execMovf s
  | .movg => Sys2Proof.Machine.execMovg s
  | .muld2 => Sys2Proof.Machine.execMuld2 s
  | .mulf2 => Sys2Proof.Machine.execMulf2 s
  | .mulg2 => Sys2Proof.Machine.execMulg2 s
  | .muld3 => Sys2Proof.Machine.execMuld3 s
  | .mulf3 => Sys2Proof.Machine.execMulf3 s
  | .mulg3 => Sys2Proof.Machine.execMulg3 s
  | .subd2 => Sys2Proof.Machine.execSubd2 s
  | .subf2 => Sys2Proof.Machine.execSubf2 s
  | .subg2 => Sys2Proof.Machine.execSubg2 s
  | .subd3 => Sys2Proof.Machine.execSubd3 s
  | .subf3 => Sys2Proof.Machine.execSubf3 s
  | .subg3 => Sys2Proof.Machine.execSubg3 s
  | .tstd => Sys2Proof.Machine.execTstd s
  | .tstf => Sys2Proof.Machine.execTstf s
  | .tstg => Sys2Proof.Machine.execTstg s
  -- 49_emulated
  | .addp4 => Sys2Proof.Machine.execAddp4 s
  | .addp6 => Sys2Proof.Machine.execAddp6 s
  | .ashp => Sys2Proof.Machine.execAshp s
  | .cmpp3 => Sys2Proof.Machine.execCmpp3 s
  | .cmpp4 => Sys2Proof.Machine.execCmpp4 s
  | .crc => Sys2Proof.Machine.execCrc s
  | .cvtlp => Sys2Proof.Machine.execCvtlp s
  | .cvtpl => Sys2Proof.Machine.execCvtpl s
  | .cvtps => Sys2Proof.Machine.execCvtps s
  | .cvtsp => Sys2Proof.Machine.execCvtsp s
  | .cvtpt => Sys2Proof.Machine.execCvtpt s
  | .cvttp => Sys2Proof.Machine.execCvttp s
  | .divp => Sys2Proof.Machine.execDivp s
  | .editpc => Sys2Proof.Machine.execEditpc s
  | .matchc => Sys2Proof.Machine.execMatchc s
  | .movp => Sys2Proof.Machine.execMovp s
  | .movtc => Sys2Proof.Machine.execMovtc s
  | .movtuc => Sys2Proof.Machine.execMovtuc s
  | .mulp => Sys2Proof.Machine.execMulp s
  | .subp4 => Sys2Proof.Machine.execSubp4 s
  | .subp6 => Sys2Proof.Machine.execSubp6 s

end Sys2Proof.Machine
end

