-- ==== Sys2Proof/Machine/Rules.lean ====
section
/-! DEFINITION. The cost rule of every row, for what is said of events without running them: the least and greatest cost of
R706 and the table's own cells (R98). `exec` does not read this file. -/

namespace Sys2Proof.Machine

open Sys2Proof

/-- The cost rule of a row (R703: "the cost rule of that row"). -/
def ruleOf : Instr → Rule
  | .adawi => ruleAdawi
  | .addb2 => ruleAddb2
  | .addl2 => ruleAddl2
  | .addw2 => ruleAddw2
  | .addb3 => ruleAddb3
  | .addl3 => ruleAddl3
  | .addw3 => ruleAddw3
  | .adwc => ruleAdwc
  | .ashl => ruleAshl
  | .ashq => ruleAshq
  | .bicb2 => ruleBicb2
  | .bicl2 => ruleBicl2
  | .bicw2 => ruleBicw2
  | .bicb3 => ruleBicb3
  | .bicl3 => ruleBicl3
  | .bicw3 => ruleBicw3
  | .bisb2 => ruleBisb2
  | .bisl2 => ruleBisl2
  | .bisw2 => ruleBisw2
  | .bisb3 => ruleBisb3
  | .bisl3 => ruleBisl3
  | .bisw3 => ruleBisw3
  | .bitb => ruleBitb
  | .bitl => ruleBitl
  | .bitw => ruleBitw
  | .clrb => ruleClrb
  | .clrl => ruleClrl
  | .clrq => ruleClrq
  | .clrw => ruleClrw
  | .cmpb => ruleCmpb
  | .cmpl => ruleCmpl
  | .cmpw => ruleCmpw
  | .cvtbl => ruleCvtbl
  | .cvtbw => ruleCvtbw
  | .cvtlb => ruleCvtlb
  | .cvtlw => ruleCvtlw
  | .cvtwb => ruleCvtwb
  | .cvtwl => ruleCvtwl
  | .decb => ruleDecb
  | .decl => ruleDecl
  | .decw => ruleDecw
  | .divb2 => ruleDivb2
  | .divl2 => ruleDivl2
  | .divw2 => ruleDivw2
  | .divb3 => ruleDivb3
  | .divl3 => ruleDivl3
  | .divw3 => ruleDivw3
  | .ediv => ruleEdiv
  | .emul => ruleEmul
  | .incb => ruleIncb
  | .incl => ruleIncl
  | .incw => ruleIncw
  | .mcomb => ruleMcomb
  | .mcoml => ruleMcoml
  | .mcomw => ruleMcomw
  | .mnegb => ruleMnegb
  | .mnegl => ruleMnegl
  | .mnegw => ruleMnegw
  | .movb => ruleMovb
  | .movl => ruleMovl
  | .movq => ruleMovq
  | .movw => ruleMovw
  | .movzbw => ruleMovzbw
  | .movzbl => ruleMovzbl
  | .movzwl => ruleMovzwl
  | .mulb2 => ruleMulb2
  | .mull2 => ruleMull2
  | .mulw2 => ruleMulw2
  | .mulb3 => ruleMulb3
  | .mull3 => ruleMull3
  | .mulw3 => ruleMulw3
  | .pushl => rulePushl
  | .rotl => ruleRotl
  | .sbwc => ruleSbwc
  | .subb2 => ruleSubb2
  | .subl2 => ruleSubl2
  | .subw2 => ruleSubw2
  | .subb3 => ruleSubb3
  | .subl3 => ruleSubl3
  | .subw3 => ruleSubw3
  | .tstb => ruleTstb
  | .tstl => ruleTstl
  | .tstw => ruleTstw
  | .xorb2 => ruleXorb2
  | .xorl2 => ruleXorl2
  | .xorw2 => ruleXorw2
  | .xorb3 => ruleXorb3
  | .xorl3 => ruleXorl3
  | .xorw3 => ruleXorw3
  | .movab => ruleMovab
  | .moval => ruleMoval
  | .movaq => ruleMovaq
  | .movaw => ruleMovaw
  | .pushab => rulePushab
  | .pushal => rulePushal
  | .pushaq => rulePushaq
  | .pushaw => rulePushaw
  | .cmpv => ruleCmpv
  | .cmpzv => ruleCmpzv
  | .extv => ruleExtv
  | .extzv => ruleExtzv
  | .insv => ruleInsv
  | .ffc => ruleFfc
  | .ffs => ruleFfs
  | .acbb => ruleAcbb
  | .acbl => ruleAcbl
  | .acbw => ruleAcbw
  | .aobleq => ruleAobleq
  | .aoblss => ruleAoblss
  | .bcc => ruleBcc
  | .bcs => ruleBcs
  | .beql => ruleBeql
  | .bgeq => ruleBgeq
  | .bgtr => ruleBgtr
  | .bgtru => ruleBgtru
  | .bleq => ruleBleq
  | .blequ => ruleBlequ
  | .blss => ruleBlss
  | .bneq => ruleBneq
  | .bvc => ruleBvc
  | .bvs => ruleBvs
  | .bbc => ruleBbc
  | .bbs => ruleBbs
  | .bbcc => ruleBbcc
  | .bbcs => ruleBbcs
  | .bbsc => ruleBbsc
  | .bbss => ruleBbss
  | .bbcci => ruleBbcci
  | .bbssi => ruleBbssi
  | .blbc => ruleBlbc
  | .blbs => ruleBlbs
  | .brb => ruleBrb
  | .brw => ruleBrw
  | .bsbb => ruleBsbb
  | .bsbw => ruleBsbw
  | .caseb => ruleCaseb
  | .casel => ruleCasel
  | .casew => ruleCasew
  | .jmp => ruleJmp
  | .jsb => ruleJsb
  | .rsb => ruleRsb
  | .sobgeq => ruleSobgeq
  | .sobgtr => ruleSobgtr
  | .callg => ruleCallg
  | .calls => ruleCalls
  | .ret => ruleRet
  | .bicpsw => ruleBicpsw
  | .bispsw => ruleBispsw
  | .bpt => ruleBpt
  | .halt => ruleHalt
  | .index => ruleIndex
  | .movpsl => ruleMovpsl
  | .nop => ruleNop
  | .popr => rulePopr
  | .pushr => rulePushr
  | .xfc => ruleXfc
  | .insqhi => ruleInsqhi
  | .insqti => ruleInsqti
  | .insque => ruleInsque
  | .remqhi => ruleRemqhi
  | .remqti => ruleRemqti
  | .remque => ruleRemque
  | .cmpc3 => ruleCmpc3
  | .cmpc5 => ruleCmpc5
  | .locc => ruleLocc
  | .movc3 => ruleMovc3
  | .movc5 => ruleMovc5
  | .scanc => ruleScanc
  | .skpc => ruleSkpc
  | .spanc => ruleSpanc
  | .chme => ruleChme
  | .chmk => ruleChmk
  | .chms => ruleChms
  | .chmu => ruleChmu
  | .ldpctx => ruleLdpctx
  | .mfpr => ruleMfpr
  | .mtpr => ruleMtpr
  | .prober => ruleProber
  | .probew => ruleProbew
  | .rei => ruleRei
  | .svpctx => ruleSvpctx
  | .addd2 => ruleAddd2
  | .addf2 => ruleAddf2
  | .addg2 => ruleAddg2
  | .addd3 => ruleAddd3
  | .addf3 => ruleAddf3
  | .addg3 => ruleAddg3
  | .cmpd => ruleCmpd
  | .cmpf => ruleCmpf
  | .cmpg => ruleCmpg
  | .cvtbd => ruleCvtbd
  | .cvtbf => ruleCvtbf
  | .cvtbg => ruleCvtbg
  | .cvtdb => ruleCvtdb
  | .cvtdf => ruleCvtdf
  | .cvtdl => ruleCvtdl
  | .cvtdw => ruleCvtdw
  | .cvtfb => ruleCvtfb
  | .cvtfd => ruleCvtfd
  | .cvtfg => ruleCvtfg
  | .cvtfl => ruleCvtfl
  | .cvtfw => ruleCvtfw
  | .cvtgb => ruleCvtgb
  | .cvtgf => ruleCvtgf
  | .cvtgl => ruleCvtgl
  | .cvtgw => ruleCvtgw
  | .cvtld => ruleCvtld
  | .cvtlf => ruleCvtlf
  | .cvtlg => ruleCvtlg
  | .cvtwd => ruleCvtwd
  | .cvtwf => ruleCvtwf
  | .cvtwg => ruleCvtwg
  | .cvtrdl => ruleCvtrdl
  | .cvtrfl => ruleCvtrfl
  | .cvtrgl => ruleCvtrgl
  | .divd2 => ruleDivd2
  | .divf2 => ruleDivf2
  | .divg2 => ruleDivg2
  | .divd3 => ruleDivd3
  | .divf3 => ruleDivf3
  | .divg3 => ruleDivg3
  | .mnegd => ruleMnegd
  | .mnegf => ruleMnegf
  | .mnegg => ruleMnegg
  | .movd => ruleMovd
  | .movf => ruleMovf
  | .movg => ruleMovg
  | .muld2 => ruleMuld2
  | .mulf2 => ruleMulf2
  | .mulg2 => ruleMulg2
  | .muld3 => ruleMuld3
  | .mulf3 => ruleMulf3
  | .mulg3 => ruleMulg3
  | .subd2 => ruleSubd2
  | .subf2 => ruleSubf2
  | .subg2 => ruleSubg2
  | .subd3 => ruleSubd3
  | .subf3 => ruleSubf3
  | .subg3 => ruleSubg3
  | .tstd => ruleTstd
  | .tstf => ruleTstf
  | .tstg => ruleTstg
  | .addp4 => ruleAddp4
  | .addp6 => ruleAddp6
  | .ashp => ruleAshp
  | .cmpp3 => ruleCmpp3
  | .cmpp4 => ruleCmpp4
  | .crc => ruleCrc
  | .cvtlp => ruleCvtlp
  | .cvtpl => ruleCvtpl
  | .cvtps => ruleCvtps
  | .cvtsp => ruleCvtsp
  | .cvtpt => ruleCvtpt
  | .cvttp => ruleCvttp
  | .divp => ruleDivp
  | .editpc => ruleEditpc
  | .matchc => ruleMatchc
  | .movp => ruleMovp
  | .movtc => ruleMovtc
  | .movtuc => ruleMovtuc
  | .mulp => ruleMulp
  | .subp4 => ruleSubp4
  | .subp6 => ruleSubp6

/-- The least cost a rule can charge (R706), the ends of the interval with the adders in both. -/
def Charge.least : Charge → Cost
  | .draw lo _ extra => lo.add extra
  | .refuse _ => {}

/-- The greatest cost a rule can charge (R706). -/
def Charge.greatest : Charge → Cost
  | .draw _ hi extra => hi.add extra
  | .refuse _ => {}

end Sys2Proof.Machine
end

