-- ==== Sys2Proof/Machine/Fetch.lean ====
section
/-! DEFINITION. From an instruction event to its row: `row_of` for a name (R96, R703), the decoder for bytes (R95). -/

namespace Sys2Proof.Machine

open Sys2Proof

/-- What an event's instruction turns out to be. -/
inductive Fetched where
  /-- A row of the opcode table. -/
  | row (i : Instr)
  /-- An instruction with no row (R94). -/
  | noRow (m : InstrName)
  /-- Bytes that are no instruction. -/
  | undecodable (why : DecodeError)
  deriving DecidableEq, Repr

/-- The row of a name, or of the instruction at the head of the bytes. An opcode with no row is refused under its value
(R94, D12; log entry 9). -/
def fetch : Source → Fetched
  | .name m =>
    match rowOf m with
    | some i => .row i
    | none => .noRow (.text m)
  | .code bytes limit =>
    match decode bytes limit with
    | .ok (ci, _) => .row ci.row
    | .error (.noRow o) => .noRow (.opcode o)
    | .error .truncated => .undecodable .truncated
    | .error .indexOfIndex => .undecodable .indexOfIndex

/-- The cost rule of an event (R703), none for bytes that are no instruction. -/
def eventCharge (p : Params) : Event → Option Charge
  | .hwInterrupt => some (hwInterruptRule p {})
  | .swInterrupt => some (swInterruptRule p {})
  | .exception => some (exceptionRule p {})
  | .instr src f =>
    match fetch src with
    | .row i => some (ruleOf i p f)
    | .noRow m => some (.refuse (.noRow m))
    | .undecodable _ => none

/-- The entry that `withFetchWord` puts into the trace: the bytes, with no fact listed and no choice made. -/
def codeEntry (bytes : List Byte) : Entry := ⟨.instr (.code bytes) {}, {}⟩

/-- A trace with an entry at an index. Entries missing before the index are filled with entries that no step reads. -/
def placeAt (trace : List Entry) (index : Nat) (e : Entry) : List Entry :=
  trace.take index ++ List.replicate (index - trace.length) e ++ e :: trace.drop (index + 1)

end Sys2Proof.Machine
end

