-- ==== Sys2Proof/Machine/Step.lean ====
section
/-! DEFINITION. The step (R703), and where the step finds its next instruction. -/

namespace Sys2Proof.Machine

open Sys2Proof

/-- An instruction event (R703): its row's meaning, or `refuse(no_row m)`. -/
def stepInstr (src : Source) (s : State) : Host.Outcome State Fault Refusal :=
  match fetch src with
  | .row i => exec i s
  | .noRow m => .next (s.refuse (.noRow m))
  | .undecodable why => .refused (.undecodable why)

/-- R703: one step consumes one event, in list order. A refused state and an exhausted trace have no step (R704, R705). -/
def step (s : State) : Host.Outcome State Fault Refusal :=
  runEntry (fun e =>
    match e.event with
    | .hwInterrupt => initiateHwInterrupt s
    | .swInterrupt => initiateSwInterrupt s
    | .exception => initiateException s
    | .instr src _ => stepInstr src s) s

/-- `s` with the instruction whose bits are `w` as the event at `pos`, and no refusal in its way, so that the next step
runs it. It stands for the load of a trace from outside (R701, R702; log entry 3). -/
def State.withFetchWord (s : State) (nbits w : Nat) : State :=
  { s with refused := none, trace := placeAt s.trace s.pos (codeEntry (wordBytes nbits w)) }

end Sys2Proof.Machine
end

