-- ==== Sys2Proof/Machine/Cells.lean ====
section
/-! DEFINITION. The cost cells of the opcode table (R7, R98, fields `cost` and `facts`), transcribed from the table and not
from the rules of the section files: a second reading of the same costs, which the meanings do not use. -/

namespace Sys2Proof.Machine

open Sys2Proof

/-- The linear form of a cost cell (R98): the `c` component is `c + cn*n + ck*k`, and `r` and `w` in the same way. -/
structure LinCost where
  c   : Nat := 0
  cn  : Nat := 0
  ck  : Nat := 0
  r   : Nat := 0
  rn  : Nat := 0
  rk  : Nat := 0
  w   : Nat := 0
  wn  : Nat := 0
  wk  : Nat := 0
  rst : Nat := 0
  pfl : Nat := 0
  mpr : Nat := 0
  deriving DecidableEq, Repr

/-- The kinds of cells (R98). -/
inductive CellKind where
  | fixed | range | tbd | exception
  deriving DecidableEq, Repr

/-- A cost cell (R98). `typ` is recorded and read by no rule (R11). -/
structure Cell where
  kind : CellKind
  when : When
  lo   : LinCost
  hi   : LinCost
  typ  : Option LinCost
  deriving DecidableEq, Repr

/-- A fixed cell: `lo` and `hi` are equal. -/
def fixedCell (w : When) (v : LinCost) : Cell := ⟨.fixed, w, v, v, none⟩

/-- A range cell. -/
def rangeCell (w : When) (lo hi : LinCost) (typ : Option LinCost) : Cell := ⟨.range, w, lo, hi, typ⟩

/-- A cell that says `tbd`: no cost. -/
def tbdOnlyCell (w : When) : Cell := ⟨.tbd, w, {}, {}, none⟩

/-- A cell that says "exception": no cost of its own. -/
def exceptionCell (w : When) : Cell := ⟨.exception, w, {}, {}, none⟩

/-- The cost of a linear form at the facts of an event; a key `mpr` counts only on a mispredicted instance (R98, R321). -/
def LinCost.at (l : LinCost) (f : Facts) : Cost where
  c := l.c + l.cn * f.n + l.ck * f.k
  r := l.r + l.rn * f.n + l.rk * f.k
  w := l.w + l.wn * f.n + l.wk * f.k
  rst := l.rst
  pfl := l.pfl
  mpr := if f.mispredicted then l.mpr else 0

/-- The cells of a row. -/
def cellsOf : Instr → List Cell
  | .adawi => [fixedCell (.sumInReg true) { c := 4 }, fixedCell (.sumInReg false) { c := 5, r := 1, w := 1 }]
  | .addb2 => [fixedCell .always { c := 1 }]
  | .addl2 => [fixedCell .always { c := 1 }]
  | .addw2 => [fixedCell .always { c := 1 }]
  | .addb3 => [fixedCell .always { c := 1 }]
  | .addl3 => [fixedCell .always { c := 1 }]
  | .addw3 => [fixedCell .always { c := 1 }]
  | .adwc => [fixedCell .always { c := 5 }]
  | .ashl => [rangeCell .always { c := 3 } { c := 4 } (some { c := 4 })]
  | .ashq => [rangeCell .always { c := 4 } { c := 7 } (some { c := 6 })]
  | .bicb2 => [fixedCell .always { c := 1 }]
  | .bicl2 => [fixedCell .always { c := 1 }]
  | .bicw2 => [fixedCell .always { c := 1 }]
  | .bicb3 => [fixedCell .always { c := 1 }]
  | .bicl3 => [fixedCell .always { c := 1 }]
  | .bicw3 => [fixedCell .always { c := 1 }]
  | .bisb2 => [fixedCell .always { c := 1 }]
  | .bisl2 => [fixedCell .always { c := 1 }]
  | .bisw2 => [fixedCell .always { c := 1 }]
  | .bisb3 => [fixedCell .always { c := 1 }]
  | .bisl3 => [fixedCell .always { c := 1 }]
  | .bisw3 => [fixedCell .always { c := 1 }]
  | .bitb => [fixedCell .always { c := 1 }]
  | .bitl => [fixedCell .always { c := 1 }]
  | .bitw => [fixedCell .always { c := 1 }]
  | .clrb => [fixedCell .always { c := 1 }]
  | .clrl => [fixedCell .always { c := 1 }]
  | .clrq => [fixedCell .always { c := 2 }]
  | .clrw => [fixedCell .always { c := 1 }]
  | .cmpb => [fixedCell .always { c := 1 }]
  | .cmpl => [fixedCell .always { c := 1 }]
  | .cmpw => [fixedCell .always { c := 1 }]
  | .cvtbl => [fixedCell .always { c := 2 }]
  | .cvtbw => [fixedCell .always { c := 2 }]
  | .cvtlb => [fixedCell .always { c := 3 }]
  | .cvtlw => [fixedCell .always { c := 3 }]
  | .cvtwb => [fixedCell .always { c := 3 }]
  | .cvtwl => [fixedCell .always { c := 2 }]
  | .decb => [fixedCell .always { c := 1 }]
  | .decl => [fixedCell .always { c := 1 }]
  | .decw => [fixedCell .always { c := 1 }]
  | .divb2 => [rangeCell .always { c := 15 } { c := 19 } (some { c := 16 })]
  | .divl2 => [rangeCell .always { c := 39 } { c := 43 } (some { c := 40 })]
  | .divw2 => [rangeCell .always { c := 23 } { c := 27 } (some { c := 24 })]
  | .divb3 => [rangeCell .always { c := 15 } { c := 19 } (some { c := 16 })]
  | .divl3 => [rangeCell .always { c := 39 } { c := 43 } (some { c := 40 })]
  | .divw3 => [rangeCell .always { c := 23 } { c := 27 } (some { c := 24 })]
  | .ediv => [rangeCell .always { c := 50, rst := 1 } { c := 54, rst := 1 } (some { c := 52, rst := 1 })]
  | .emul => [fixedCell .always { c := 37 }]
  | .incb => [fixedCell .always { c := 1 }]
  | .incl => [fixedCell .always { c := 1 }]
  | .incw => [fixedCell .always { c := 1 }]
  | .mcomb => [fixedCell .always { c := 1 }]
  | .mcoml => [fixedCell .always { c := 1 }]
  | .mcomw => [fixedCell .always { c := 1 }]
  | .mnegb => [fixedCell .always { c := 1 }]
  | .mnegl => [fixedCell .always { c := 1 }]
  | .mnegw => [fixedCell .always { c := 1 }]
  | .movb => [fixedCell .always { c := 1 }]
  | .movl => [fixedCell .always { c := 1 }]
  | .movq => [fixedCell .always { c := 1 }]
  | .movw => [fixedCell .always { c := 1 }]
  | .movzbw => [fixedCell .always { c := 1 }]
  | .movzbl => [fixedCell .always { c := 1 }]
  | .movzwl => [fixedCell .always { c := 1 }]
  | .mulb2 => [rangeCell .always { c := 14 } { c := 15 } (some { c := 14 })]
  | .mull2 => [fixedCell (.hasFpa false) { c := 38 }, tbdOnlyCell (.hasFpa true)]
  | .mulw2 => [rangeCell .always { c := 21 } { c := 22 } (some { c := 21 })]
  | .mulb3 => [rangeCell .always { c := 14 } { c := 15 } (some { c := 14 })]
  | .mull3 => [fixedCell (.hasFpa false) { c := 38 }, tbdOnlyCell (.hasFpa true)]
  | .mulw3 => [rangeCell .always { c := 21 } { c := 22 } (some { c := 21 })]
  | .pushl => [fixedCell .always { c := 1 }]
  | .rotl => [fixedCell .always { c := 2 }]
  | .sbwc => [fixedCell .always { c := 5 }]
  | .subb2 => [fixedCell .always { c := 1 }]
  | .subl2 => [fixedCell .always { c := 1 }]
  | .subw2 => [fixedCell .always { c := 1 }]
  | .subb3 => [fixedCell .always { c := 1 }]
  | .subl3 => [fixedCell .always { c := 1 }]
  | .subw3 => [fixedCell .always { c := 1 }]
  | .tstb => [fixedCell .always { c := 1 }]
  | .tstl => [fixedCell .always { c := 1 }]
  | .tstw => [fixedCell .always { c := 1 }]
  | .xorb2 => [fixedCell .always { c := 1 }]
  | .xorl2 => [fixedCell .always { c := 1 }]
  | .xorw2 => [fixedCell .always { c := 1 }]
  | .xorb3 => [fixedCell .always { c := 1 }]
  | .xorl3 => [fixedCell .always { c := 1 }]
  | .xorw3 => [fixedCell .always { c := 1 }]
  | .movab => [fixedCell .always { c := 1 }]
  | .moval => [fixedCell .always { c := 1 }]
  | .movaq => [fixedCell .always { c := 1 }]
  | .movaw => [fixedCell .always { c := 1 }]
  | .pushab => [fixedCell .always { c := 1 }]
  | .pushal => [fixedCell .always { c := 1 }]
  | .pushaq => [fixedCell .always { c := 1 }]
  | .pushaw => [fixedCell .always { c := 1 }]
  | .cmpv => [fixedCell (.vInReg true) { c := 9 }, rangeCell (.vInReg false) { c := 13, r := 1 } { c := 16, r := 2 } (some { c := 13, r := 1 })]
  | .cmpzv => [fixedCell (.vInReg true) { c := 9 }, rangeCell (.vInReg false) { c := 13, r := 1 } { c := 16, r := 2 } (some { c := 13, r := 1 })]
  | .extv => [fixedCell (.vInReg true) { c := 8 }, rangeCell (.vInReg false) { c := 12, r := 1 } { c := 15, r := 2 } (some { c := 12, r := 1 })]
  | .extzv => [fixedCell (.vInReg true) { c := 8 }, rangeCell (.vInReg false) { c := 12, r := 1 } { c := 15, r := 2 } (some { c := 12, r := 1 })]
  | .insv => [rangeCell (.vInReg true) { c := 11 } { c := 12 } (some { c := 11 }), rangeCell (.vInReg false) { c := 12, r := 1, w := 1 } { c := 13, r := 2, w := 2 } (some { c := 12, r := 1, w := 1 })]
  | .ffc => [rangeCell (.vInReg true) { c := 14 } { c := 18 } (some { c := 16 }), rangeCell (.vInReg false) { c := 18, r := 1 } { c := 25, r := 2 } (some { c := 20, r := 1 })]
  | .ffs => [rangeCell (.vInReg true) { c := 13 } { c := 17 } (some { c := 15 }), rangeCell (.vInReg false) { c := 17, r := 1 } { c := 24, r := 2 } (some { c := 19, r := 1 })]
  | .acbb => [fixedCell .always { c := 3, mpr := 1 }]
  | .acbl => [fixedCell .always { c := 3, mpr := 1 }]
  | .acbw => [fixedCell .always { c := 3, mpr := 1 }]
  | .aobleq => [fixedCell .always { c := 2, mpr := 1 }]
  | .aoblss => [fixedCell .always { c := 2, mpr := 1 }]
  | .bcc => [fixedCell .always { c := 1, mpr := 1 }]
  | .bcs => [fixedCell .always { c := 1, mpr := 1 }]
  | .beql => [fixedCell .always { c := 1, mpr := 1 }]
  | .bgeq => [fixedCell .always { c := 1, mpr := 1 }]
  | .bgtr => [fixedCell .always { c := 1, mpr := 1 }]
  | .bgtru => [fixedCell .always { c := 1, mpr := 1 }]
  | .bleq => [fixedCell .always { c := 1, mpr := 1 }]
  | .blequ => [fixedCell .always { c := 1, mpr := 1 }]
  | .blss => [fixedCell .always { c := 1, mpr := 1 }]
  | .bneq => [fixedCell .always { c := 1, mpr := 1 }]
  | .bvc => [fixedCell .always { c := 1, mpr := 1 }]
  | .bvs => [fixedCell .always { c := 1, mpr := 1 }]
  | .bbc => [fixedCell (.vInReg true) { c := 5, mpr := 1 }, fixedCell (.vInReg false) { c := 6, r := 1, mpr := 1 }]
  | .bbs => [fixedCell (.vInReg true) { c := 5, mpr := 1 }, fixedCell (.vInReg false) { c := 6, r := 1, mpr := 1 }]
  | .bbcc => [fixedCell (.vInReg true) { c := 5, mpr := 1 }, fixedCell (.vInReg false) { c := 6, r := 1, w := 1, mpr := 1 }]
  | .bbcs => [fixedCell (.vInReg true) { c := 5, mpr := 1 }, fixedCell (.vInReg false) { c := 6, r := 1, w := 1, mpr := 1 }]
  | .bbsc => [fixedCell (.vInReg true) { c := 5, mpr := 1 }, fixedCell (.vInReg false) { c := 6, r := 1, w := 1, mpr := 1 }]
  | .bbss => [fixedCell (.vInReg true) { c := 5, mpr := 1 }, fixedCell (.vInReg false) { c := 6, r := 1, w := 1, mpr := 1 }]
  | .bbcci => [fixedCell (.vInReg true) { c := 5, mpr := 1 }, fixedCell (.vInReg false) { c := 7, r := 1, w := 1, mpr := 1 }]
  | .bbssi => [fixedCell (.vInReg true) { c := 5, mpr := 1 }, fixedCell (.vInReg false) { c := 7, r := 1, w := 1, mpr := 1 }]
  | .blbc => [fixedCell .always { c := 1, mpr := 1 }]
  | .blbs => [fixedCell .always { c := 1, mpr := 1 }]
  | .brb => [fixedCell .always { c := 1 }]
  | .brw => [fixedCell .always { c := 1 }]
  | .bsbb => [fixedCell .always { c := 1 }]
  | .bsbw => [fixedCell .always { c := 1 }]
  | .caseb => [fixedCell .always { c := 9, r := 1, pfl := 1 }]
  | .casel => [fixedCell .always { c := 9, r := 1, pfl := 1 }]
  | .casew => [fixedCell .always { c := 9, r := 1, pfl := 1 }]
  | .jmp => [fixedCell .always { c := 1 }]
  | .jsb => [fixedCell .always { c := 1 }]
  | .rsb => [fixedCell .always { c := 1 }]
  | .sobgeq => [fixedCell .always { c := 1, mpr := 1 }]
  | .sobgtr => [fixedCell .always { c := 1, mpr := 1 }]
  | .callg => [rangeCell .always { c := 12, w := 4, wn := 1, rst := 1 } { c := 13, w := 4, wn := 1, rst := 1 } (some { c := 12, w := 4, wn := 1, rst := 1 })]
  | .calls => [rangeCell .always { c := 12, w := 5, wn := 1, rst := 1 } { c := 13, w := 5, wn := 1, rst := 1 } (some { c := 12, w := 5, wn := 1, rst := 1 })]
  | .ret => [fixedCell (.frameKind .G) { c := 8, r := 2, rn := 1, rst := 1 }, fixedCell (.frameKind .S) { c := 9, r := 3, rn := 1, rst := 1 }]
  | .bicpsw => [fixedCell .always { c := 5 }]
  | .bispsw => [fixedCell .always { c := 5 }]
  | .bpt => [exceptionCell .always]
  | .halt => [fixedCell .always { c := 3 }]
  | .index => [fixedCell (.sizeIsOne true) { c := 6 }, fixedCell (.sizeIsOne false) { c := 39 }]
  | .movpsl => [fixedCell .always { c := 3 }]
  | .nop => [fixedCell .always { c := 1 }]
  | .popr => [fixedCell .always { c := 10, rn := 1, rst := 1 }]
  | .pushr => [fixedCell .always { c := 7, wn := 1, rst := 1 }]
  | .xfc => [exceptionCell .always]
  | .insqhi => [fixedCell .always { c := 10, r := 2, w := 5 }]
  | .insqti => [fixedCell .always { c := 11, r := 3, w := 6 }]
  | .insque => [fixedCell .always { c := 3, r := 1, w := 4 }]
  | .remqhi => [fixedCell .always { c := 14, r := 3, w := 3 }]
  | .remqti => [fixedCell .always { c := 16, r := 4, w := 4 }]
  | .remque => [fixedCell .always { c := 5, r := 2, w := 2 }]
  | .cmpc3 => [fixedCell .always { c := 8, cn := 7, rn := 2, rst := 1 }]
  | .cmpc5 => [fixedCell .always { c := 9, cn := 7, ck := 6, rn := 2, rk := 1, rst := 1 }]
  | .locc => [fixedCell .always { c := 6, cn := 6, rn := 1, rst := 1 }]
  | .movc3 => [fixedCell .always { c := 16, cn := 3, rn := 1, wn := 1, rst := 1 }]
  | .movc5 => [fixedCell .always { c := 30, cn := 3, ck := 2, rn := 1, wn := 1, wk := 1, rst := 1 }]
  | .scanc => [fixedCell .always { c := 8, cn := 9, rn := 2, rst := 1 }]
  | .skpc => [fixedCell .always { c := 6, cn := 6, rn := 1, rst := 1 }]
  | .spanc => [fixedCell .always { c := 8, cn := 9, rn := 2, rst := 1 }]
  | .chme => [fixedCell .always { c := 12, r := 1, w := 3 }]
  | .chmk => [fixedCell .always { c := 12, r := 1, w := 3 }]
  | .chms => [fixedCell .always { c := 12, r := 1, w := 3 }]
  | .chmu => [fixedCell .always { c := 12, r := 1, w := 3 }]
  | .ldpctx => [rangeCell .always { c := 22, r := 24, w := 2, rst := 1 } { c := 25, r := 24, w := 2, rst := 1 } none]
  | .mfpr => [rangeCell .always { c := 7, rst := 1 } { c := 15, rst := 1 } (some { c := 10, rst := 1 })]
  | .mtpr => [rangeCell .always { c := 7, rst := 1 } { c := 15, rst := 1 } (some { c := 8, rst := 1 })]
  | .prober => [rangeCell .always { c := 11 } { c := 12 } (some { c := 11 })]
  | .probew => [rangeCell .always { c := 11 } { c := 12 } (some { c := 11 })]
  | .rei => [rangeCell .always { c := 16 } { c := 21 } (some { c := 17 })]
  | .svpctx => [rangeCell .always { c := 8, r := 2, w := 20, rst := 1 } { c := 13, r := 2, w := 20, rst := 1 } (some { c := 12, r := 2, w := 20, rst := 1 })]
  | .addd2 => [tbdOnlyCell .always]
  | .addf2 => [tbdOnlyCell .always]
  | .addg2 => [tbdOnlyCell .always]
  | .addd3 => [tbdOnlyCell .always]
  | .addf3 => [tbdOnlyCell .always]
  | .addg3 => [tbdOnlyCell .always]
  | .cmpd => [tbdOnlyCell .always]
  | .cmpf => [tbdOnlyCell .always]
  | .cmpg => [tbdOnlyCell .always]
  | .cvtbd => [tbdOnlyCell .always]
  | .cvtbf => [tbdOnlyCell .always]
  | .cvtbg => [tbdOnlyCell .always]
  | .cvtdb => [tbdOnlyCell .always]
  | .cvtdf => [tbdOnlyCell .always]
  | .cvtdl => [tbdOnlyCell .always]
  | .cvtdw => [tbdOnlyCell .always]
  | .cvtfb => [tbdOnlyCell .always]
  | .cvtfd => [tbdOnlyCell .always]
  | .cvtfg => [tbdOnlyCell .always]
  | .cvtfl => [tbdOnlyCell .always]
  | .cvtfw => [tbdOnlyCell .always]
  | .cvtgb => [tbdOnlyCell .always]
  | .cvtgf => [tbdOnlyCell .always]
  | .cvtgl => [tbdOnlyCell .always]
  | .cvtgw => [tbdOnlyCell .always]
  | .cvtld => [tbdOnlyCell .always]
  | .cvtlf => [tbdOnlyCell .always]
  | .cvtlg => [tbdOnlyCell .always]
  | .cvtwd => [tbdOnlyCell .always]
  | .cvtwf => [tbdOnlyCell .always]
  | .cvtwg => [tbdOnlyCell .always]
  | .cvtrdl => [tbdOnlyCell .always]
  | .cvtrfl => [tbdOnlyCell .always]
  | .cvtrgl => [tbdOnlyCell .always]
  | .divd2 => [tbdOnlyCell .always]
  | .divf2 => [tbdOnlyCell .always]
  | .divg2 => [tbdOnlyCell .always]
  | .divd3 => [tbdOnlyCell .always]
  | .divf3 => [tbdOnlyCell .always]
  | .divg3 => [tbdOnlyCell .always]
  | .mnegd => [tbdOnlyCell .always]
  | .mnegf => [tbdOnlyCell .always]
  | .mnegg => [tbdOnlyCell .always]
  | .movd => [tbdOnlyCell .always]
  | .movf => [tbdOnlyCell .always]
  | .movg => [tbdOnlyCell .always]
  | .muld2 => [tbdOnlyCell .always]
  | .mulf2 => [tbdOnlyCell .always]
  | .mulg2 => [tbdOnlyCell .always]
  | .muld3 => [tbdOnlyCell .always]
  | .mulf3 => [tbdOnlyCell .always]
  | .mulg3 => [tbdOnlyCell .always]
  | .subd2 => [tbdOnlyCell .always]
  | .subf2 => [tbdOnlyCell .always]
  | .subg2 => [tbdOnlyCell .always]
  | .subd3 => [tbdOnlyCell .always]
  | .subf3 => [tbdOnlyCell .always]
  | .subg3 => [tbdOnlyCell .always]
  | .tstd => [tbdOnlyCell .always]
  | .tstf => [tbdOnlyCell .always]
  | .tstg => [tbdOnlyCell .always]
  | .addp4 => [fixedCell .always { c := 11, r := 1, w := 8, pfl := 1 }]
  | .addp6 => [fixedCell .always { c := 12, r := 1, w := 10, pfl := 1 }]
  | .ashp => [fixedCell .always { c := 12, r := 1, w := 10, pfl := 1 }]
  | .cmpp3 => [fixedCell .always { c := 9, r := 1, w := 7, pfl := 1 }]
  | .cmpp4 => [fixedCell .always { c := 11, r := 1, w := 8, pfl := 1 }]
  | .crc => [fixedCell .always { c := 11, r := 1, w := 8, pfl := 1 }]
  | .cvtlp => [fixedCell .always { c := 9, r := 1, w := 7, pfl := 1 }]
  | .cvtpl => [fixedCell .always { c := 10, r := 1, w := 7, pfl := 1 }]
  | .cvtps => [fixedCell .always { c := 11, r := 1, w := 8, pfl := 1 }]
  | .cvtsp => [fixedCell .always { c := 11, r := 1, w := 8, pfl := 1 }]
  | .cvtpt => [fixedCell .always { c := 11, r := 1, w := 9, pfl := 1 }]
  | .cvttp => [fixedCell .always { c := 11, r := 1, w := 9, pfl := 1 }]
  | .divp => [fixedCell .always { c := 12, r := 1, w := 10, pfl := 1 }]
  | .editpc => [fixedCell .always { c := 11, r := 1, w := 8, pfl := 1 }]
  | .matchc => [fixedCell .always { c := 11, r := 1, w := 8, pfl := 1 }]
  | .movp => [fixedCell .always { c := 9, r := 1, w := 7, pfl := 1 }]
  | .movtc => [fixedCell .always { c := 12, r := 1, w := 10, pfl := 1 }]
  | .movtuc => [fixedCell .always { c := 12, r := 1, w := 10, pfl := 1 }]
  | .mulp => [fixedCell .always { c := 12, r := 1, w := 10, pfl := 1 }]
  | .subp4 => [fixedCell .always { c := 11, r := 1, w := 8, pfl := 1 }]
  | .subp6 => [fixedCell .always { c := 12, r := 1, w := 10, pfl := 1 }]

/-- The dynamic facts a row reads (R98, field `facts`), besides the unaligned lists that every row reads. -/
def factsOf : Instr → List FactName
  | .adawi => [.sumInReg]
  | .addb2 => []
  | .addl2 => []
  | .addw2 => []
  | .addb3 => []
  | .addl3 => []
  | .addw3 => []
  | .adwc => []
  | .ashl => []
  | .ashq => []
  | .bicb2 => []
  | .bicl2 => []
  | .bicw2 => []
  | .bicb3 => []
  | .bicl3 => []
  | .bicw3 => []
  | .bisb2 => []
  | .bisl2 => []
  | .bisw2 => []
  | .bisb3 => []
  | .bisl3 => []
  | .bisw3 => []
  | .bitb => []
  | .bitl => []
  | .bitw => []
  | .clrb => []
  | .clrl => []
  | .clrq => []
  | .clrw => []
  | .cmpb => []
  | .cmpl => []
  | .cmpw => []
  | .cvtbl => []
  | .cvtbw => []
  | .cvtlb => []
  | .cvtlw => []
  | .cvtwb => []
  | .cvtwl => []
  | .decb => []
  | .decl => []
  | .decw => []
  | .divb2 => []
  | .divl2 => []
  | .divw2 => []
  | .divb3 => []
  | .divl3 => []
  | .divw3 => []
  | .ediv => []
  | .emul => []
  | .incb => []
  | .incl => []
  | .incw => []
  | .mcomb => []
  | .mcoml => []
  | .mcomw => []
  | .mnegb => []
  | .mnegl => []
  | .mnegw => []
  | .movb => []
  | .movl => []
  | .movq => []
  | .movw => []
  | .movzbw => []
  | .movzbl => []
  | .movzwl => []
  | .mulb2 => []
  | .mull2 => [.hasFpa]
  | .mulw2 => []
  | .mulb3 => []
  | .mull3 => [.hasFpa]
  | .mulw3 => []
  | .pushl => []
  | .rotl => []
  | .sbwc => []
  | .subb2 => []
  | .subl2 => []
  | .subw2 => []
  | .subb3 => []
  | .subl3 => []
  | .subw3 => []
  | .tstb => []
  | .tstl => []
  | .tstw => []
  | .xorb2 => []
  | .xorl2 => []
  | .xorw2 => []
  | .xorb3 => []
  | .xorl3 => []
  | .xorw3 => []
  | .movab => []
  | .moval => []
  | .movaq => []
  | .movaw => []
  | .pushab => []
  | .pushal => []
  | .pushaq => []
  | .pushaw => []
  | .cmpv => [.vInReg]
  | .cmpzv => [.vInReg]
  | .extv => [.vInReg]
  | .extzv => [.vInReg]
  | .insv => [.vInReg]
  | .ffc => [.vInReg]
  | .ffs => [.vInReg]
  | .acbb => [.mispredicted]
  | .acbl => [.mispredicted]
  | .acbw => [.mispredicted]
  | .aobleq => [.mispredicted]
  | .aoblss => [.mispredicted]
  | .bcc => [.mispredicted]
  | .bcs => [.mispredicted]
  | .beql => [.mispredicted]
  | .bgeq => [.mispredicted]
  | .bgtr => [.mispredicted]
  | .bgtru => [.mispredicted]
  | .bleq => [.mispredicted]
  | .blequ => [.mispredicted]
  | .blss => [.mispredicted]
  | .bneq => [.mispredicted]
  | .bvc => [.mispredicted]
  | .bvs => [.mispredicted]
  | .bbc => [.vInReg, .mispredicted]
  | .bbs => [.vInReg, .mispredicted]
  | .bbcc => [.vInReg, .mispredicted]
  | .bbcs => [.vInReg, .mispredicted]
  | .bbsc => [.vInReg, .mispredicted]
  | .bbss => [.vInReg, .mispredicted]
  | .bbcci => [.vInReg, .mispredicted]
  | .bbssi => [.vInReg, .mispredicted]
  | .blbc => [.mispredicted]
  | .blbs => [.mispredicted]
  | .brb => []
  | .brw => []
  | .bsbb => []
  | .bsbw => []
  | .caseb => []
  | .casel => []
  | .casew => []
  | .jmp => []
  | .jsb => []
  | .rsb => []
  | .sobgeq => [.mispredicted]
  | .sobgtr => [.mispredicted]
  | .callg => [.n]
  | .calls => [.n]
  | .ret => [.n, .frameKind]
  | .bicpsw => []
  | .bispsw => []
  | .bpt => []
  | .halt => []
  | .index => [.sizeIsOne]
  | .movpsl => []
  | .nop => []
  | .popr => [.n]
  | .pushr => [.n]
  | .xfc => []
  | .insqhi => []
  | .insqti => []
  | .insque => []
  | .remqhi => []
  | .remqti => []
  | .remque => []
  | .cmpc3 => [.n]
  | .cmpc5 => [.n, .k]
  | .locc => [.n]
  | .movc3 => [.n]
  | .movc5 => [.n, .k]
  | .scanc => [.n]
  | .skpc => [.n]
  | .spanc => [.n]
  | .chme => []
  | .chmk => []
  | .chms => []
  | .chmu => []
  | .ldpctx => []
  | .mfpr => []
  | .mtpr => []
  | .prober => []
  | .probew => []
  | .rei => []
  | .svpctx => []
  | .addd2 => []
  | .addf2 => []
  | .addg2 => []
  | .addd3 => []
  | .addf3 => []
  | .addg3 => []
  | .cmpd => []
  | .cmpf => []
  | .cmpg => []
  | .cvtbd => []
  | .cvtbf => []
  | .cvtbg => []
  | .cvtdb => []
  | .cvtdf => []
  | .cvtdl => []
  | .cvtdw => []
  | .cvtfb => []
  | .cvtfd => []
  | .cvtfg => []
  | .cvtfl => []
  | .cvtfw => []
  | .cvtgb => []
  | .cvtgf => []
  | .cvtgl => []
  | .cvtgw => []
  | .cvtld => []
  | .cvtlf => []
  | .cvtlg => []
  | .cvtwd => []
  | .cvtwf => []
  | .cvtwg => []
  | .cvtrdl => []
  | .cvtrfl => []
  | .cvtrgl => []
  | .divd2 => []
  | .divf2 => []
  | .divg2 => []
  | .divd3 => []
  | .divf3 => []
  | .divg3 => []
  | .mnegd => []
  | .mnegf => []
  | .mnegg => []
  | .movd => []
  | .movf => []
  | .movg => []
  | .muld2 => []
  | .mulf2 => []
  | .mulg2 => []
  | .muld3 => []
  | .mulf3 => []
  | .mulg3 => []
  | .subd2 => []
  | .subf2 => []
  | .subg2 => []
  | .subd3 => []
  | .subf3 => []
  | .subg3 => []
  | .tstd => []
  | .tstf => []
  | .tstg => []
  | .addp4 => []
  | .addp6 => []
  | .ashp => []
  | .cmpp3 => []
  | .cmpp4 => []
  | .crc => []
  | .cvtlp => []
  | .cvtpl => []
  | .cvtps => []
  | .cvtsp => []
  | .cvtpt => []
  | .cvttp => []
  | .divp => []
  | .editpc => []
  | .matchc => []
  | .movp => []
  | .movtc => []
  | .movtuc => []
  | .mulp => []
  | .subp4 => []
  | .subp6 => []

/-- What a cell says of an event, by the reading rules of R98, R450, R603. -/
def chargeOfCell (m : Instr) (p : Params) (f : Facts) (cell : Cell) : Charge :=
  match cell.kind with
  | .fixed => .draw (cell.lo.at f) (cell.hi.at f) (adders f)
  | .range => .draw (cell.lo.at f) (cell.hi.at f) (adders f)
  | .tbd => tbdCell m p f
  | .exception => exceptionRule p f

/-- What the table says of an event: the cell whose condition holds. -/
def tableCharge (m : Instr) (p : Params) (f : Facts) : Option Charge :=
  ((cellsOf m).find? fun cell => cell.when.holds p f).map (chargeOfCell m p f)

end Sys2Proof.Machine
end

