-- ==== Sys2Proof/WellFormed.lean ====
section
/-! DEFINITION. Which instruction terms the encoding of R84 and R86 can write. Modes are not restricted by access type:
R87 says that the cost model accepts any mode for any operand. -/

namespace Sys2Proof

/-- R86: an immediate is as long as the operand's data type. -/
def Imm.fits : Imm → DType → Bool
  | .byte _, .b => true
  | .word _, .w => true
  | .long _, .l => true
  | .long _, .f => true
  | .quad _, .q => true
  | .quad _, .d => true
  | .quad _, .g => true
  | _, _ => false

/-- R86: modes 8 and 9 on register 15 are immediate and absolute, not autoincrement and autoincrement deferred. -/
def BaseMode.wf (dt : DType) : BaseMode → Bool
  | .autoinc rn => rn != 15#4
  | .autoincDef rn => rn != 15#4
  | .immediate x => x.fits dt
  | .literal _ => true
  | .register _ => true
  | .registerDef _ => true
  | .autodec _ => true
  | .absolute _ => true
  | .disp8 _ _ => true
  | .disp16 _ _ => true
  | .disp32 _ _ => true
  | .dispDef8 _ _ => true
  | .dispDef16 _ _ => true
  | .dispDef32 _ _ => true

/-- A specifier is well formed when its base mode is; any of the twenty rows of R85 may stand. -/
def Specifier.wf (dt : DType) : Specifier → Bool
  | .plain base => base.wf dt
  | .indexed _ base => base.wf dt

/-- An operand fits an entry of the row's operand list (R83); `len` is the length that the operand before it gives a
displacement list. -/
def Operand.fits (len : Nat) (d : OperandDecl) : Operand → Bool
  | .spec sp => d.access != .b && sp.wf d.dtype
  | .displ8 _ => d.access == .b && d.dtype == .b && !d.isList
  | .displ16 _ => d.access == .b && d.dtype == .w && !d.isList
  | .displList ds => d.access == .b && d.isList && ds.length == len

/-- An operand list has exactly the row's entries and each operand fits its own. -/
def operandsFit (limit : BitVec 32) : Nat → List OperandDecl → List Operand → Bool
  | _, [], [] => true
  | len, d :: ds, o :: os => o.fits len d && operandsFit limit (o.listLength limit d) ds os
  | _, [], _ :: _ => false
  | _, _ :: _, [] => false

/-- An instruction is well formed when its operands fit its row. A CASEx list has `limit + 1` words (R91): the limit is the
instruction's own constant, or the value `limit` of the instance where it is no constant (log entry 8). -/
def CodedInstr.wf (ci : CodedInstr) (limit : BitVec 32 := 0#32) : Bool :=
  operandsFit limit 0 ci.row.operandDecls ci.operands

end Sys2Proof
end

