-- ==== Sys2Proof/Safety.lean ====
section
/-! DEFINITION. The terms in which claims are stated: when a state has a step, what the caller guarantees of an event, and the
bounds of R706. -/

namespace Sys2Proof.Machine

open Sys2Proof

/-- R703: `step(s)` requires `refused = none` and `pos < length(trace)`; `e` is the entry the step consumes. -/
structure State.Ready (s : State) (e : Entry) : Prop where
  notRefused : s.refused = none
  atPos      : s.trace[s.pos]? = some e

/-- R704: a run ends when `pos = length(trace)` or when `refused` is set. -/
def State.ended (s : State) : Bool := s.refused.isSome || s.trace.length ≤ s.pos

/-- The outcome of an event that charges a draw (R11, R17): some member of `draw(lo, hi)` is charged with the extra cost,
and the member is the one the entry picks if it picks one. -/
def ChargesDraw (o : Host.Outcome State Fault Refusal) (s : State) (pick lo hi extra : Cost) : Prop :=
  (∃ v, Cost.InDraw lo hi v ∧ o = .next (s.charge (v.add extra))) ∧
  (Cost.InDraw lo hi pick → o = .next (s.charge (pick.add extra)))

/-- A run's first state (R700, R702): the reset state with the inputs of the run, a value of the parameters and a trace. -/
def State.start (p : Params) (trace : List Entry) : State := { State.reset with params := p, trace := trace }

/-- The rows whose cell is `tbd` under given parameters (R450, R202): the 61 floating rows, and MULL2 and MULL3 with an
FPA. -/
def isTbd (p : Params) (i : Instr) : Bool :=
  i.family == .floating || ((i == .mull2 || i == .mull3) && p.hasFpa)

/-- A supplied `tbd_cost` interval has its ends in order (R11: otherwise the draw has no member). -/
def SuppliedInOrder (p : Params) : Prop := ∀ e ∈ p.tbdCost, e.lo.le e.hi

/-- The rows whose `n` counts the set bits of a 16-bit mask (R370, R380). -/
def maskRows : List Instr := [.callg, .calls, .ret, .popr, .pushr]

/-- D17: the caller guarantees `n ≤ 16` for the rows with a register mask; the model does not check. -/
def maskBounded (i : Instr) (f : Facts) : Prop := i ∈ maskRows → f.n ≤ 16

/-- What an instance's own operands say of its facts, which D23 leaves to the caller: the register-mode facts (R85, R204,
R300), the count of a constant mask of PUSHR or POPR (R380; bit 15 counts, log entry 23), and whether a constant size of INDEX is 1 (R386). -/
def factsMatch (ci : CodedInstr) (f : Facts) : Prop :=
  (ci.row = .adawi → ∀ sp, operandNamed "sum" ci = some sp → f.sumInReg = inRegister sp) ∧
  (∀ sp, fieldOperand ci = some sp → f.vInReg = inRegister sp) ∧
  (ci.row = .pushr ∨ ci.row = .popr → ∀ sp c, operandNamed "mask" ci = some sp → constantOf sp = some c →
    f.n = maskCount (BitVec.ofNat 16 c)) ∧
  (ci.row = .index → ∀ sp c, operandNamed "size" ci = some sp → constantOf sp = some c →
    f.sizeIsOne = decide (c = 1)) ∧
  maskBounded ci.row f

/-- The least cost of an entry (R706); 0 for an event without a cost. -/
def leastOf (p : Params) (e : Entry) : Cost :=
  match eventCharge p e.event with
  | some ch => ch.least
  | none => {}

/-- The greatest cost of an entry (R706); 0 for an event without a cost. -/
def greatestOf (p : Params) (e : Entry) : Cost :=
  match eventCharge p e.event with
  | some ch => ch.greatest
  | none => {}

/-- The sum of the least costs of entries. -/
def leastSum (p : Params) (es : List Entry) : Cost := Cost.sum (es.map (leastOf p))

/-- The sum of the greatest costs of entries. -/
def greatestSum (p : Params) (es : List Entry) : Cost := Cost.sum (es.map (greatestOf p))

/-- The events of a trace, without the choices made in their draws. -/
def eventsOf (es : List Entry) : List Event := es.map Entry.event

/-- An event that is charged, not refused, and whose draw has a member. -/
def Chargeable (p : Params) (e : Entry) : Prop :=
  ∃ lo hi extra, eventCharge p e.event = some (.draw lo hi extra) ∧ lo.le hi

/-- R706 as an invariant of a run: `pos` is in the trace, and `acc` lies between the sums of the least and the greatest
costs of the events consumed. -/
structure State.Bounded (s : State) : Prop where
  inTrace : s.pos ≤ s.trace.length
  above   : (leastSum s.params (s.trace.take s.pos)).le s.acc
  below   : s.acc.le (greatestSum s.params (s.trace.take s.pos))

end Sys2Proof.Machine
end

