-- ==== Sys2Proof/Certificates/Slice0/Obligations.lean ====
section
/-! DEFINITION. The statements for the provers. A cost charged by a row is written as `s.charge (v.add (adders e.facts))`: `acc` grows
by `v` and the adders of the entry's facts, `pos` by one, and every other field of the state is as it was. The choice that R702 (c) gives an event
with a draw is the pick of its entry (log entry 4). -/

open Sys2Proof Sys2Proof.Machine

/-- R700, R42: "The model state starts at acc = Cost(), pos = 0, refused = none". -/
def Obligations.ResetState : Prop :=
  State.reset.acc = ⟨0, 0, 0, 0, 0, 0⟩ ∧ State.reset.pos = 0 ∧ State.reset.refused = none

/-- The model's choice, log entries 2 and 3: the parameters and the trace that stand in the reset state. -/
def Obligations.InputsAtReset : Prop :=
  State.reset.params.hasFpa = false ∧ (∀ i : Instr, tbdCostOf State.reset.params i = none) ∧
    State.reset.trace = [] ∧ step State.reset = .fault .traceEnded

/-- R600, with its example. -/
def Obligations.HwInterruptCost : Prop :=
  (∀ (s : State) (pick : Cost), s.Ready ⟨.hwInterrupt, pick⟩ →
      step s = .next (s.charge { c := 22, r := 3, w := 2 })) ∧
    (∀ (p : Params) (pick : Cost), ∃ t, Sys2Proof.core.run 1 (State.start p [⟨.hwInterrupt, pick⟩]) = .next t ∧
      t.acc = { c := 22, r := 3, w := 2 } ∧ t.pos = 1 ∧ t.refused = none)

/-- R601, with its example. -/
def Obligations.SwInterruptCost : Prop :=
  (∀ (s : State) (pick : Cost), s.Ready ⟨.swInterrupt, pick⟩ →
      step s = .next (s.charge { c := 21, r := 2, w := 2 })) ∧
    (∀ (p : Params) (pick : Cost), ∃ t, Sys2Proof.core.run 1 (State.start p [⟨.swInterrupt, pick⟩]) = .next t ∧
      t.acc = { c := 21, r := 2, w := 2 } ∧ t.refused = none)

/-- R602: the draw is componentwise and adds no adders. -/
def Obligations.ExceptionCost : Prop :=
  ∀ (s : State) (pick : Cost), s.Ready ⟨.exception, pick⟩ →
    (∃ v : Cost, (28 ≤ v.c ∧ v.c ≤ 50 ∧ v.r = 2 ∧ 2 ≤ v.w ∧ v.w ≤ 8 ∧ v.rst = 0 ∧ v.pfl = 0 ∧ v.mpr = 0) ∧
      step s = .next (s.charge v)) ∧
    (28 ≤ pick.c ∧ pick.c ≤ 50 ∧ pick.r = 2 ∧ 2 ≤ pick.w ∧ pick.w ≤ 8 ∧ pick.rst = 0 ∧ pick.pfl = 0 ∧ pick.mpr = 0 →
      step s = .next (s.charge pick))

/-- R603. -/
def Obligations.BptXfcCostAnException : Prop :=
  ∀ (s : State) (e : Entry), s.Ready e →
    (∀ i ∈ ([.bpt, .xfc] : List Instr),
      ChargesDraw (exec i s) s e.pick { c := 28, r := 2, w := 2 } { c := 50, r := 2, w := 8 } {} ∧
      exec i s = initiateException s)

/-- The cells "1" of spec/40. -/
def Obligations.OneCycleIntegerCost : Prop :=
  ∀ (s : State) (e : Entry), s.Ready e →
    (∀ i ∈ ([.addb2, .addl2, .addw2, .addb3, .addl3, .addw3, .bicb2, .bicl2, .bicw2, .bicb3, .bicl3,
      .bicw3, .bisb2, .bisl2, .bisw2, .bisb3, .bisl3, .bisw3, .bitb, .bitl, .bitw, .clrb, .clrl,
      .clrw, .cmpb, .cmpl, .cmpw, .decb, .decl, .decw, .incb, .incl, .incw, .mcomb, .mcoml,
      .mcomw, .mnegb, .mnegl, .mnegw, .movb, .movl, .movq, .movw, .movzbw, .movzbl, .movzwl,
      .pushl, .subb2, .subl2, .subw2, .subb3, .subl3, .subw3, .tstb, .tstl, .tstw, .xorb2,
      .xorl2, .xorw2, .xorb3, .xorl3, .xorw3] : List Instr),
      exec i s = .next (s.charge (Cost.add { c := 1 } (adders e.facts))))

/-- The fixed cells of spec/40 above one cycle. -/
def Obligations.FixedIntegerCost : Prop :=
  ∀ (s : State) (e : Entry), s.Ready e →
    (∀ i ∈ ([.clrq, .cvtbl, .cvtbw, .cvtwl, .rotl] : List Instr),
      exec i s = .next (s.charge (Cost.add { c := 2 } (adders e.facts)))) ∧
    (∀ i ∈ ([.cvtlb, .cvtlw, .cvtwb] : List Instr),
      exec i s = .next (s.charge (Cost.add { c := 3 } (adders e.facts)))) ∧
    (∀ i ∈ ([.adwc, .sbwc] : List Instr),
      exec i s = .next (s.charge (Cost.add { c := 5 } (adders e.facts)))) ∧
    (∀ i ∈ ([.emul] : List Instr),
      exec i s = .next (s.charge (Cost.add { c := 37 } (adders e.facts))))

/-- The two cells of R204. -/
def Obligations.AdawiCost : Prop :=
  ∀ (s : State) (e : Entry), s.Ready e →
    (e.facts.sumInReg = true → exec .adawi s = .next (s.charge (Cost.add { c := 4 } (adders e.facts)))) ∧
    (e.facts.sumInReg = false →
      exec .adawi s = .next (s.charge (Cost.add { c := 5, r := 1, w := 1 } (adders e.facts))))

/-- The range cells of spec/40 without `rst`. -/
def Obligations.RangeIntegerCost : Prop :=
  ∀ (s : State) (e : Entry), s.Ready e →
    (∀ i ∈ ([.ashl] : List Instr),
      ChargesDraw (exec i s) s e.pick { c := 3 } { c := 4 } (adders e.facts)) ∧
    (∀ i ∈ ([.ashq] : List Instr),
      ChargesDraw (exec i s) s e.pick { c := 4 } { c := 7 } (adders e.facts)) ∧
    (∀ i ∈ ([.mulb2, .mulb3] : List Instr),
      ChargesDraw (exec i s) s e.pick { c := 14 } { c := 15 } (adders e.facts)) ∧
    (∀ i ∈ ([.mulw2, .mulw3] : List Instr),
      ChargesDraw (exec i s) s e.pick { c := 21 } { c := 22 } (adders e.facts)) ∧
    (∀ i ∈ ([.divb2, .divb3] : List Instr),
      ChargesDraw (exec i s) s e.pick { c := 15 } { c := 19 } (adders e.facts)) ∧
    (∀ i ∈ ([.divw2, .divw3] : List Instr),
      ChargesDraw (exec i s) s e.pick { c := 23 } { c := 27 } (adders e.facts)) ∧
    (∀ i ∈ ([.divl2, .divl3] : List Instr),
      ChargesDraw (exec i s) s e.pick { c := 39 } { c := 43 } (adders e.facts))

/-- R200, R251. "of the rows of this section only EDIV carries (rst)". -/
def Obligations.EdivCost : Prop :=
  ∀ (s : State) (e : Entry), s.Ready e →
    ChargesDraw (exec .ediv s) s e.pick { c := 50, rst := 1 } { c := 54, rst := 1 } (adders e.facts) ∧
    (∀ i ∈ Family.rows .integer, i ≠ .ediv → isTbd s.params i = false →
      ∃ t, exec i s = .next t ∧ t.pos = s.pos + 1 ∧ t.acc.rst = s.acc.rst)

/-- R202, D10, D8. -/
def Obligations.LongMultiplyCost : Prop :=
  ∀ (s : State) (e : Entry), s.Ready e →
    (∀ i ∈ ([.mull2, .mull3] : List Instr),
      (s.params.hasFpa = false → exec i s = .next (s.charge (Cost.add { c := 38 } (adders e.facts)))) ∧
      (∀ lo hi, s.params.hasFpa = true → tbdCostOf s.params i = some (lo, hi) → lo.le hi →
        ChargesDraw (exec i s) s e.pick lo hi (adders e.facts)) ∧
      (s.params.hasFpa = true → tbdCostOf s.params i = none → exec i s = .next (s.refuse (.tbd i))))

/-- The cells "1" of spec/41. -/
def Obligations.AddressMoveCost : Prop :=
  ∀ (s : State) (e : Entry), s.Ready e →
    (∀ i ∈ ([.movab, .moval, .movaq, .movaw, .pushab, .pushal, .pushaq, .pushaw] : List Instr),
      exec i s = .next (s.charge (Cost.add { c := 1 } (adders e.facts))))

/-- The two cells of each field row of spec/41. -/
def Obligations.FieldCost : Prop :=
  ∀ (s : State) (e : Entry), s.Ready e →
    (e.facts.vInReg = true →
    (∀ i ∈ ([.cmpv, .cmpzv] : List Instr),
      exec i s = .next (s.charge (Cost.add { c := 9 } (adders e.facts)))) ∧
    (∀ i ∈ ([.extv, .extzv] : List Instr),
      exec i s = .next (s.charge (Cost.add { c := 8 } (adders e.facts)))) ∧
    (∀ i ∈ ([.insv] : List Instr),
      ChargesDraw (exec i s) s e.pick { c := 11 } { c := 12 } (adders e.facts)) ∧
    (∀ i ∈ ([.ffc] : List Instr),
      ChargesDraw (exec i s) s e.pick { c := 14 } { c := 18 } (adders e.facts)) ∧
    (∀ i ∈ ([.ffs] : List Instr),
      ChargesDraw (exec i s) s e.pick { c := 13 } { c := 17 } (adders e.facts))) ∧
    (e.facts.vInReg = false →
    (∀ i ∈ ([.cmpv, .cmpzv] : List Instr),
      ChargesDraw (exec i s) s e.pick { c := 13, r := 1 } { c := 16, r := 2 } (adders e.facts)) ∧
    (∀ i ∈ ([.extv, .extzv] : List Instr),
      ChargesDraw (exec i s) s e.pick { c := 12, r := 1 } { c := 15, r := 2 } (adders e.facts)) ∧
    (∀ i ∈ ([.insv] : List Instr),
      ChargesDraw (exec i s) s e.pick { c := 12, r := 1, w := 1 } { c := 13, r := 2, w := 2 } (adders e.facts)) ∧
    (∀ i ∈ ([.ffc] : List Instr),
      ChargesDraw (exec i s) s e.pick { c := 18, r := 1 } { c := 25, r := 2 } (adders e.facts)) ∧
    (∀ i ∈ ([.ffs] : List Instr),
      ChargesDraw (exec i s) s e.pick { c := 17, r := 1 } { c := 24, r := 2 } (adders e.facts)))

/-- R322 and the cells of the ten rows. -/
def Obligations.UnconditionalControlCost : Prop :=
  ∀ (s : State) (e : Entry), s.Ready e →
    (∀ i ∈ ([.brb, .brw, .bsbb, .bsbw, .jmp, .jsb, .rsb] : List Instr),
      exec i s = .next (s.charge (Cost.add { c := 1 } (adders e.facts)))) ∧
    (∀ i ∈ ([.caseb, .casel, .casew] : List Instr),
      exec i s = .next (s.charge (Cost.add { c := 9, r := 1, pfl := 1 } (adders e.facts))))

/-- R321 and the cells of the 21 rows. -/
def Obligations.ConditionalBranchCost : Prop :=
  ∀ (s : State) (e : Entry), s.Ready e →
    (∀ i ∈ ([.acbb, .acbl, .acbw] : List Instr),
      exec i s = .next (s.charge (Cost.add { c := 3, mpr := if e.facts.mispredicted then 1 else 0 } (adders e.facts)))) ∧
    (∀ i ∈ ([.aobleq, .aoblss] : List Instr),
      exec i s = .next (s.charge (Cost.add { c := 2, mpr := if e.facts.mispredicted then 1 else 0 } (adders e.facts)))) ∧
    (∀ i ∈ ([.bcc, .bcs, .beql, .bgeq, .bgtr, .bgtru, .bleq, .blequ, .blss, .bneq, .bvc, .bvs, .blbc,
      .blbs, .sobgeq, .sobgtr] : List Instr),
      exec i s = .next (s.charge (Cost.add { c := 1, mpr := if e.facts.mispredicted then 1 else 0 } (adders e.facts))))

/-- The two cells of each bit branch. -/
def Obligations.BitBranchCost : Prop :=
  ∀ (s : State) (e : Entry), s.Ready e →
    (e.facts.vInReg = true →
    (∀ i ∈ ([.bbc, .bbs, .bbcc, .bbcs, .bbsc, .bbss, .bbcci, .bbssi] : List Instr),
      exec i s = .next (s.charge (Cost.add { c := 5, mpr := if e.facts.mispredicted then 1 else 0 } (adders e.facts))))) ∧
    (e.facts.vInReg = false →
    (∀ i ∈ ([.bbc, .bbs] : List Instr),
      exec i s = .next (s.charge (Cost.add { c := 6, r := 1, mpr := if e.facts.mispredicted then 1 else 0 } (adders e.facts)))) ∧
    (∀ i ∈ ([.bbcc, .bbcs, .bbsc, .bbss] : List Instr),
      exec i s = .next (s.charge (Cost.add { c := 6, r := 1, w := 1, mpr := if e.facts.mispredicted then 1 else 0 } (adders e.facts)))) ∧
    (∀ i ∈ ([.bbcci, .bbssi] : List Instr),
      exec i s = .next (s.charge (Cost.add { c := 7, r := 1, w := 1, mpr := if e.facts.mispredicted then 1 else 0 } (adders e.facts)))))

/-- R371 and the cells of the three rows. -/
def Obligations.ProcedureCallCost : Prop :=
  ∀ (s : State) (e : Entry), s.Ready e →
    (∀ i ∈ ([.callg] : List Instr),
      ChargesDraw (exec i s) s e.pick { c := 12, w := 4 + e.facts.n, rst := 1 } { c := 13, w := 4 + e.facts.n, rst := 1 } (adders e.facts)) ∧
    (∀ i ∈ ([.calls] : List Instr),
      ChargesDraw (exec i s) s e.pick { c := 12, w := 5 + e.facts.n, rst := 1 } { c := 13, w := 5 + e.facts.n, rst := 1 } (adders e.facts)) ∧
    (e.facts.frameKind = .G →
      exec .ret s = .next (s.charge (Cost.add { c := 8, r := 2 + e.facts.n, rst := 1 } (adders e.facts)))) ∧
    (e.facts.frameKind = .S →
      exec .ret s = .next (s.charge (Cost.add { c := 9, r := 3 + e.facts.n, rst := 1 } (adders e.facts))))

/-- The fixed cells of spec/44; R613: "HALT charges Cost(c=3) and the run goes on". -/
def Obligations.MiscellaneousCost : Prop :=
  ∀ (s : State) (e : Entry), s.Ready e →
    (∀ i ∈ ([.bicpsw, .bispsw] : List Instr),
      exec i s = .next (s.charge (Cost.add { c := 5 } (adders e.facts)))) ∧
    (∀ i ∈ ([.halt, .movpsl] : List Instr),
      exec i s = .next (s.charge (Cost.add { c := 3 } (adders e.facts)))) ∧
    (∀ i ∈ ([.nop] : List Instr),
      exec i s = .next (s.charge (Cost.add { c := 1 } (adders e.facts)))) ∧
    (e.facts.sizeIsOne = true → exec .index s = .next (s.charge (Cost.add { c := 6 } (adders e.facts)))) ∧
    (e.facts.sizeIsOne = false → exec .index s = .next (s.charge (Cost.add { c := 39 } (adders e.facts))))

/-- The cells of the two rows; D17 for the bound of a mask count. That bit 15 of a mask counts is the model's choice, log entry 23. -/
def Obligations.RegisterMaskCost : Prop :=
  (∀ mask : BitVec 16, maskCount mask ≤ 16) ∧
  ∀ (s : State) (e : Entry), s.Ready e →
    (∀ i ∈ ([.popr] : List Instr),
      exec i s = .next (s.charge (Cost.add { c := 10, r := e.facts.n, rst := 1 } (adders e.facts)))) ∧
    (∀ i ∈ ([.pushr] : List Instr),
      exec i s = .next (s.charge (Cost.add { c := 7, w := e.facts.n, rst := 1 } (adders e.facts))))

/-- The cells of spec/45. -/
def Obligations.QueueCost : Prop :=
  ∀ (s : State) (e : Entry), s.Ready e →
    (∀ i ∈ ([.insqhi] : List Instr),
      exec i s = .next (s.charge (Cost.add { c := 10, r := 2, w := 5 } (adders e.facts)))) ∧
    (∀ i ∈ ([.insqti] : List Instr),
      exec i s = .next (s.charge (Cost.add { c := 11, r := 3, w := 6 } (adders e.facts)))) ∧
    (∀ i ∈ ([.insque] : List Instr),
      exec i s = .next (s.charge (Cost.add { c := 3, r := 1, w := 4 } (adders e.facts)))) ∧
    (∀ i ∈ ([.remqhi] : List Instr),
      exec i s = .next (s.charge (Cost.add { c := 14, r := 3, w := 3 } (adders e.facts)))) ∧
    (∀ i ∈ ([.remqti] : List Instr),
      exec i s = .next (s.charge (Cost.add { c := 16, r := 4, w := 4 } (adders e.facts)))) ∧
    (∀ i ∈ ([.remque] : List Instr),
      exec i s = .next (s.charge (Cost.add { c := 5, r := 2, w := 2 } (adders e.facts))))

/-- The cells of spec/46. -/
def Obligations.CharacterStringCost : Prop :=
  ∀ (s : State) (e : Entry), s.Ready e →
    (∀ i ∈ ([.cmpc3] : List Instr),
      exec i s = .next (s.charge (Cost.add { c := 8 + 7 * e.facts.n, r := 2 * e.facts.n, rst := 1 } (adders e.facts)))) ∧
    (∀ i ∈ ([.cmpc5] : List Instr),
      exec i s = .next (s.charge (Cost.add { c := 9 + 7 * e.facts.n + 6 * e.facts.k, r := 2 * e.facts.n + e.facts.k, rst := 1 } (adders e.facts)))) ∧
    (∀ i ∈ ([.locc, .skpc] : List Instr),
      exec i s = .next (s.charge (Cost.add { c := 6 + 6 * e.facts.n, r := e.facts.n, rst := 1 } (adders e.facts)))) ∧
    (∀ i ∈ ([.movc3] : List Instr),
      exec i s = .next (s.charge (Cost.add { c := 16 + 3 * e.facts.n, r := e.facts.n, w := e.facts.n, rst := 1 } (adders e.facts)))) ∧
    (∀ i ∈ ([.movc5] : List Instr),
      exec i s = .next (s.charge (Cost.add { c := 30 + 3 * e.facts.n + 2 * e.facts.k, r := e.facts.n, w := e.facts.n + e.facts.k, rst := 1 } (adders e.facts)))) ∧
    (∀ i ∈ ([.scanc, .spanc] : List Instr),
      exec i s = .next (s.charge (Cost.add { c := 8 + 9 * e.facts.n, r := 2 * e.facts.n, rst := 1 } (adders e.facts))))

/-- The cells of spec/47. -/
def Obligations.OperatingSystemCost : Prop :=
  ∀ (s : State) (e : Entry), s.Ready e →
    (∀ i ∈ ([.chme, .chmk, .chms, .chmu] : List Instr),
      exec i s = .next (s.charge (Cost.add { c := 12, r := 1, w := 3 } (adders e.facts)))) ∧
    (∀ i ∈ ([.ldpctx] : List Instr),
      ChargesDraw (exec i s) s e.pick { c := 22, r := 24, w := 2, rst := 1 } { c := 25, r := 24, w := 2, rst := 1 } (adders e.facts)) ∧
    (∀ i ∈ ([.svpctx] : List Instr),
      ChargesDraw (exec i s) s e.pick { c := 8, r := 2, w := 20, rst := 1 } { c := 13, r := 2, w := 20, rst := 1 } (adders e.facts)) ∧
    (∀ i ∈ ([.mfpr, .mtpr] : List Instr),
      ChargesDraw (exec i s) s e.pick { c := 7, rst := 1 } { c := 15, rst := 1 } (adders e.facts)) ∧
    (∀ i ∈ ([.prober, .probew] : List Instr),
      ChargesDraw (exec i s) s e.pick { c := 11 } { c := 12 } (adders e.facts)) ∧
    (∀ i ∈ ([.rei] : List Instr),
      ChargesDraw (exec i s) s e.pick { c := 16 } { c := 21 } (adders e.facts))

/-- R450, D8. -/
def Obligations.FloatingCost : Prop :=
  (∀ i : Instr, i ∈ Family.rows .floating ↔ i ∈ ([.addd2, .addf2, .addg2, .addd3, .addf3, .addg3, .cmpd, .cmpf, .cmpg, .cvtbd, .cvtbf,
      .cvtbg, .cvtdb, .cvtdf, .cvtdl, .cvtdw, .cvtfb, .cvtfd, .cvtfg, .cvtfl, .cvtfw, .cvtgb,
      .cvtgf, .cvtgl, .cvtgw, .cvtld, .cvtlf, .cvtlg, .cvtwd, .cvtwf, .cvtwg, .cvtrdl, .cvtrfl,
      .cvtrgl, .divd2, .divf2, .divg2, .divd3, .divf3, .divg3, .mnegd, .mnegf, .mnegg, .movd,
      .movf, .movg, .muld2, .mulf2, .mulg2, .muld3, .mulf3, .mulg3, .subd2, .subf2, .subg2,
      .subd3, .subf3, .subg3, .tstd, .tstf, .tstg] : List Instr)) ∧
  ∀ (s : State) (e : Entry), s.Ready e →
    (∀ i ∈ Family.rows .floating,
      (∀ lo hi, tbdCostOf s.params i = some (lo, hi) → lo.le hi →
        ChargesDraw (exec i s) s e.pick lo hi (adders e.facts)) ∧
      (tbdCostOf s.params i = none → exec i s = .next (s.refuse (.tbd i))))

/-- R521. The cell is the cost of taking the emulation exception only (R520). -/
def Obligations.EmulatedCost : Prop :=
  ∀ (s : State) (e : Entry), s.Ready e →
    (∀ i ∈ ([.addp4, .addp6, .ashp, .cmpp3, .cmpp4, .crc, .cvtlp, .cvtpl, .cvtps, .cvtsp, .cvtpt,
      .cvttp, .divp, .editpc, .matchc, .movp, .movtc, .movtuc, .mulp, .subp4, .subp6] : List Instr),
      3 ≤ i.operandDecls.length ∧ i.operandDecls.length ≤ 6 ∧
      exec i s = .next (s.charge (Cost.add
        { c := if i = .cvtpl then 10 else if i.operandDecls.length = 3 then 9
               else if i.operandDecls.length = 6 then 12 else 11,
          r := 1, w := i.operandDecls.length + 4, pfl := 1 } (adders e.facts))))

/-- R703: a step performs exactly one of charge and refuse; R6: "The cost model itself never faults"; R30 and R32 for the frame. -/
def Obligations.EveryInstructionSteps : Prop :=
  (∀ (s : State) (e : Entry) (i : Instr), s.Ready e → SuppliedInOrder s.params → ∃ t, exec i s = .next t) ∧
  (∀ (s t : State) (i : Instr), exec i s = .next t →
    s.refused = none ∧ t.params = s.params ∧ t.trace = s.trace ∧
    if isTbd s.params i = true ∧ tbdCostOf s.params i = none then
      t.refused = some (.tbd i) ∧ t.acc = s.acc ∧ t.pos = s.pos
    else t.refused = none ∧ t.pos = s.pos + 1 ∧ s.acc.le t.acc)

/-- R14, R98 (field facts). -/
def Obligations.FactsReadByRow : Prop :=
  ∀ i : Instr,
    (∀ (p q : Params) (f g : Facts), (∀ name ∈ factsOf i, name.agree p q f g) →
    adders f = adders g → p.tbdCost = q.tbdCost → ruleOf i p f = ruleOf i q g) ∧
    ∀ name ∈ factsOf i, ∃ (p q : Params) (f g : Facts), (∀ other : FactName, other ≠ name → other.agree p q f g) ∧
      f.unalignedReads = g.unalignedReads ∧ f.unalignedWrites = g.unalignedWrites ∧ p.tbdCost = q.tbdCost ∧
      ruleOf i p f ≠ ruleOf i q g

/-- R98: the table holds each cost a second time; the two transcriptions agree. -/
def Obligations.TableCostsAgree : Prop :=
  ∀ (i : Instr) (p : Params) (f : Facts), tableCharge i p f = some (ruleOf i p f)

/-- R202, D10. -/
def Obligations.FpaChangesTwoRows : Prop :=
  ∀ (i : Instr) (f : Facts) (tbd : List TbdCost),
    if i = .mull2 ∨ i = .mull3 then
      ruleOf i ⟨false, tbd⟩ f = .draw { c := 38 } { c := 38 } (adders f) ∧
      ruleOf i ⟨true, tbd⟩ f =
        match tbdCostOf ⟨true, tbd⟩ i with
        | none => .refuse (.tbd i)
        | some (lo, hi) => .draw lo hi (adders f)
    else ruleOf i ⟨true, tbd⟩ f = ruleOf i ⟨false, tbd⟩ f

/-- R709, D7. -/
def Obligations.RestartOnEighteenRows : Prop :=
  ∀ (s : State) (e : Entry), s.Ready e →
    (∀ i : Instr, isTbd s.params i = false →
      ∃ t, exec i s = .next t ∧ t.refused = none ∧ t.pos = s.pos + 1 ∧ t.acc.rst = s.acc.rst +
        if i ∈ ([.ediv, .callg, .calls, .ret, .popr, .pushr, .cmpc3, .cmpc5, .locc, .movc3, .movc5,
        .scanc, .skpc, .spanc, .ldpctx, .svpctx, .mtpr, .mfpr] : List Instr) then 1 else 0)

/-- R12, D7. -/
def Obligations.FlushOnTwentyFourRows : Prop :=
  ∀ (s : State) (e : Entry), s.Ready e →
    (∀ i : Instr, isTbd s.params i = false →
      ∃ t, exec i s = .next t ∧ t.refused = none ∧ t.acc.pfl = s.acc.pfl +
        if i ∈ ([.caseb, .casel, .casew] : List Instr) ∨ i ∈ Family.rows .emulated then 1 else 0)

/-- R321, D6. -/
def Obligations.MispredictOnTwentyNineRows : Prop :=
  ∀ (s : State) (e : Entry), s.Ready e →
    (∀ i : Instr, isTbd s.params i = false →
      ∃ t, exec i s = .next t ∧ t.refused = none ∧ t.acc.mpr = s.acc.mpr +
        if e.facts.mispredicted = true ∧
          i ∈ ([.acbb, .acbl, .acbw, .aobleq, .aoblss, .bcc, .bcs, .beql, .bgeq, .bgtr, .bgtru, .bleq,
        .blequ, .blss, .bneq, .bvc, .bvs, .bbc, .bbs, .bbcc, .bbcs, .bbsc, .bbss, .bbcci,
        .bbssi, .blbc, .blbs, .sobgeq, .sobgtr] : List Instr)
        then 1 else 0)

/-- R62. What an immediate constant gives is DEDUCED (log entry 12) and what the indexed rows without syntax give is the model's
choice (log entry 22): neither is part of this statement; RegisterModeFact states both. -/
def Obligations.AddersFormula : Prop :=
  (∀ f : Facts, adders f =
      { r := (f.unalignedReads.map fun len => if len = .q then 2 else 1).sum,
        w := (f.unalignedWrites.map fun len => if len = .q then 2 else 1).sum }) ∧
  lenOf .b = none ∧ lenOf .w = some .w ∧ lenOf .l = some .l ∧ lenOf .f = some .l ∧ lenOf .q = some .q ∧
  lenOf .d = some .q ∧ lenOf .g = some .q ∧
  (∀ (u : Nat → Len → Bool) (o : PlacedOperand) (len : Len), rowNumber (addrRow o.spec) ∉ [6, 11, 12, 16] →
    (len ∈ unalignedReads u [o] ↔
      (o.decl.access = .r ∨ o.decl.access = .m) ∧ lenOf o.decl.dtype = some len ∧
        (addrRow o.spec).kind ≠ .register ∧ (addrRow o.spec).kind ≠ .shortLiteral ∧ u o.addr len = true) ∧
    (len ∈ unalignedWrites u [o] ↔
      (o.decl.access = .w ∨ o.decl.access = .m) ∧ lenOf o.decl.dtype = some len ∧
        (addrRow o.spec).kind ≠ .register ∧ (addrRow o.spec).kind ≠ .shortLiteral ∧ u o.addr len = true)) ∧
  (∀ (u : Nat → Len → Bool) (o : PlacedOperand) (os : List PlacedOperand),
    unalignedReads u (o :: os) = unalignedReads u [o] ++ unalignedReads u os ∧
    unalignedWrites u (o :: os) = unalignedWrites u [o] ++ unalignedWrites u os ∧
    (unalignedReads u [o]).length ≤ 1 ∧ (unalignedWrites u [o]).length ≤ 1) ∧
  (∀ (i : Instr) (p : Params) (f : Facts) (lo hi extra : Cost), i ≠ .bpt → i ≠ .xfc →
    ruleOf i p f = .draw lo hi extra → extra = adders f) ∧
  adders { unalignedReads := [.l, .l], unalignedWrites := [.l] } = { r := 2, w := 1 }

/-- spec/95 section 2.13 item 4. -/
def Obligations.AddersOnEveryRow : Prop :=
  ∀ (i : Instr) (p : Params) (f : Facts) (lo hi extra : Cost), ruleOf i p f = .draw lo hi extra →
    extra = (if i = .bpt ∨ i = .xfc then {} else adders f) ∧
    ∀ reads writes, ∃ extra', ruleOf i p { f with unalignedReads := reads, unalignedWrites := writes } = .draw lo hi extra'

/-- spec/95 section 2.13 item 1. -/
def Obligations.IntervalsInOrder : Prop :=
  ∀ (i : Instr) (p : Params) (f : Facts) (lo hi extra : Cost), SuppliedInOrder p → ruleOf i p f = .draw lo hi extra →
    lo.le hi ∧ (isTbd p i = false →
      (lo = hi ↔ ∃ cell, (cellsOf i).find? (fun cell => cell.when.holds p f) = some cell ∧ cell.kind = .fixed))

/-- R703 for an event that names its row. That an event may give bytes, which the step decodes, is the model's choice (log entry
10: R95 gives the decoder to the caller); their layout is PRESUMED (log entry 5). -/
def Obligations.StepRunsDecodedInstruction : Prop :=
  (∀ (s : State) (bytes rest : List Byte) (limit : BitVec 32) (f : Facts) (pick : Cost) (ci : CodedInstr),
      s.Ready ⟨.instr (.code bytes limit) f, pick⟩ → decode bytes limit = .ok (ci, rest) → ci.wf limit = true →
      step s = exec ci.row s) ∧
    (∀ (s : State) (name : String) (f : Facts) (pick : Cost) (i : Instr),
      s.Ready ⟨.instr (.name name) f, pick⟩ → rowOf name = some i → step s = exec i s)

/-- R703 for the events it speaks of, which name their instruction. What an event given by bytes does is the model's choice: log
entries 10 (the step decodes them), 9 (the name of an opcode with no row) and 7 (bytes that are no instruction are refused). -/
def Obligations.StepIsCharge : Prop :=
  ∀ (s : State) (e : Entry), s.Ready e →
    match eventCharge s.params e.event with
    | some ch => step s = applyCharge e.pick s ch
    | none => ∃ why, step s = .refused (.undecodable why)

/-- The interface of State.withFetchWord, the model's choice: log entries 3 and 10; the layout of the bytes is PRESUMED, log entry 5. -/
def Obligations.FetchedWordRuns : Prop :=
  ∀ (s : State) (nbits w : Nat) (i : Instr), decodeTableWord nbits w = some i →
    step (s.withFetchWord nbits w) = exec i (s.withFetchWord nbits w)

/-- R84 says of the operands in the bytes that "no cost rule reads it"; R201 says the same of the integer rows. Neither speaks of events
given by bytes: that an event may give bytes, and that the constructors of Instr carry no operands, is the model's choice (log
entries 10 and 15). -/
def Obligations.CostIndependentOfOperands : Prop :=
  ∀ (p : Params) (f : Facts) (ci ci' : CodedInstr) (bytes bytes' rest rest' : List Byte) (limit limit' : BitVec 32)
    (name : String), decode bytes limit = .ok (ci, rest) → decode bytes' limit' = .ok (ci', rest') → ci.row = ci'.row →
    rowOf name = some ci.row →
    eventCharge p (.instr (.code bytes limit) f) = eventCharge p (.instr (.code bytes' limit') f) ∧
    eventCharge p (.instr (.code bytes limit) f) = eventCharge p (.instr (.name name) f)

/-- R94, D12. That an event may give bytes, and the name of the reason there, is the model's choice, log entries 10 and 9. -/
def Obligations.NoRowIsRefused : Prop :=
  (∀ (s : State) (name : String) (f : Facts) (pick : Cost), s.Ready ⟨.instr (.name name) f, pick⟩ → rowOf name = none →
      step s = .next (s.refuse (.noRow (.text name)))) ∧
    (∀ (s : State) (b0 : Byte) (rest : List Byte) (limit : BitVec 32) (f : Facts) (pick : Cost),
      s.Ready ⟨.instr (.code (b0 :: rest) limit) f, pick⟩ →
      b0 ∈ [0x4F#8, 0x54#8, 0x55#8, 0x57#8, 0x59#8, 0x5A#8, 0x5B#8, 0x6F#8, 0x74#8, 0x75#8, 0x77#8, 0xFE#8, 0xFF#8] →
      step s = .next (s.refuse (.noRow (.opcode (.one b0))))) ∧
    (∀ (s : State) (b1 : Byte) (rest : List Byte) (limit : BitVec 32) (f : Facts) (pick : Cost),
      s.Ready ⟨.instr (.code (0xFD#8 :: b1 :: rest) limit) f, pick⟩ → op2Table b1 = none →
      step s = .next (s.refuse (.noRow (.opcode (.fd b1)))))

/-- R31, R705: "a refused state has no step". -/
def Obligations.RefusedRunHasNoStep : Prop :=
  ∀ (s : State) (why : Reason), s.refused = some why →
    step s = .refused (.runRefused why) ∧ (∀ i : Instr, exec i s = .refused (.runRefused why)) ∧
    ∀ (k : Nat) (t : State), Sys2Proof.core.run k s = .next t → t = s

/-- R703: step requires refused = none and pos < length(trace); R704. Two stops that are no end of R704 also stop a run of the model:
emptyDraw (DEDUCED, log entry 6) and undecodable bytes (the model's choice, log entry 7); the last clause says there is no other. -/
def Obligations.EndedRunHasNoStep : Prop :=
  (∀ s : State, s.refused = none → s.trace.length ≤ s.pos → step s = .fault .traceEnded) ∧
    (∀ s : State, s.ended = true ↔ ¬ ∃ e, s.Ready e) ∧
    (∀ (s : State) (e : Entry), s.Ready e → (∃ t, step s = .next t) ∨
      (∃ row lo hi, tbdCostOf s.params row = some (lo, hi) ∧ ¬ lo.le hi ∧ step s = .fault (.emptyDraw lo hi)) ∨
      ∃ bytes limit f why, e.event = .instr (.code bytes limit) f ∧ decode bytes limit = .error why ∧
        step s = .refused (.undecodable why))

/-- R705, spec/95 section 2.13 item 5. -/
def Obligations.TbdRefusals : Prop :=
  (∀ (s : State) (e : Entry) (i : Instr), s.Ready e → s.params.tbdCost = [] →
      ((exec i s = .next (s.refuse (.tbd i))) ↔ i ∈ Family.rows .floating ∨ (i ∈ ([.mull2, .mull3] : List Instr) ∧ s.params.hasFpa = true)) ∧
      ((∃ t, exec i s = .next t ∧ t.refused = none) ↔ ¬ exec i s = .next (s.refuse (.tbd i)))) ∧
    (∀ i : Instr, i ∈ allRows) ∧ allRows.Nodup ∧ allRows.length = 263 ∧
    (allRows.filter (isTbd ⟨false, []⟩)).length = 61 ∧ (allRows.filter (isTbd ⟨true, []⟩)).length = 63

/-- No bit of an encoding is dropped, and an instruction ends where its encoding does. The layout of R84 and R86 is PRESUMED (log
entry 5), and so is the length of a CASEx list (R91, log entries 21 and 8). -/
def Obligations.DecodeReadsEncode : Prop :=
  ∀ (ci : CodedInstr) (limit : BitVec 32) (rest : List Byte), ci.wf limit = true →
    decode (ci.encode ++ rest) limit = .ok (ci, rest)

/-- R91. That a list has limit + 1 words is PRESUMED (log entry 21; GK15); that the value of a limit which is no constant is an input
of the instance is the model's choice (log entry 8). -/
def Obligations.CaseDecodeReadsEncode : Prop :=
  ∀ (ci : CodedInstr) (limit : BitVec 32), ci.wf limit = true → ci.row = .caseb ∨ ci.row = .casew ∨ ci.row = .casel →
    (∀ rest : List Byte, decode (ci.encode ++ rest) limit = .ok (ci, rest)) ∧
    ∃ selector base sp ds, ci.operands = [.spec selector, .spec base, .spec sp, .displList ds] ∧
      operandNamed "limit" ci = some sp ∧
      (∀ n, constantOf sp = some n → ds.length = n + 1) ∧
      (constantOf sp = none →
        ds.length = limit.toNat % 2 ^ (if ci.row = .caseb then 8 else if ci.row = .casew then 16 else 32) + 1) ∧
      1 ≤ ds.length ∧ ds.length ≤ 2 ^ (if ci.row = .caseb then 8 else if ci.row = .casew then 16 else 32) ∧
      ∀ k < ds.length, ∀ odd : List Byte, odd.length ≤ 1 →
        decode (CodedInstr.encode ⟨ci.row, [.spec selector, .spec base, .spec sp, .displList (ds.take k)]⟩ ++ odd) limit =
          .error .truncated

/-- What the decoder answers is well formed and accounts for every byte it consumed. The layout of R84 and R86 is PRESUMED (log entry
5); the length of a CASEx list is log entries 8 and 21. -/
def Obligations.EncodeWritesDecoded : Prop :=
  ∀ (bytes rest : List Byte) (limit : BitVec 32) (ci : CodedInstr), decode bytes limit = .ok (ci, rest) →
    ci.wf limit = true ∧ ci.encode ++ rest = bytes

/-- R93, R94, R95. That FD comes first is PRESUMED (R82, log entry 5). -/
def Obligations.OpcodeMap : Prop :=
  (∀ (i : Instr) (rest : List Byte), decodeOpcode (i.opcode.encode ++ rest) = .ok (i, rest)) ∧
    (∀ i j : Instr, i.opcode = j.opcode → i = j) ∧
    (∀ b : Byte, op1Table b = none ↔ b ∈ [0x4F#8, 0x54#8, 0x55#8, 0x57#8, 0x59#8, 0x5A#8, 0x5B#8, 0x6F#8, 0x74#8, 0x75#8,
      0x77#8, 0xFD#8, 0xFE#8, 0xFF#8]) ∧
    ((List.range 256).filter fun k => op2Table (BitVec.ofNat 8 k) = none).length = 235

/-- Opcodes of R93, laid out as R82, R84 and R86 say, which mark the layout as general knowledge: PRESUMED, log entry 5. The lengths of
the two CASEx lists are PRESUMED (log entry 21); that the second one's limit is an input is log entry 8. -/
def Obligations.DecodedWords : Prop :=
  decode [0xD0#8, 0x05#8, 0x50#8] = .ok (⟨.movl, [.spec (.plain (.literal 5#6)), .spec (.plain (.register 0#4))]⟩, []) ∧
    decode [0xC0#8, 0x81#8, 0x50#8] = .ok (⟨.addl2, [.spec (.plain (.autoinc 1#4)), .spec (.plain (.register 0#4))]⟩, []) ∧
    decode [0xFD#8, 0x40#8, 0x50#8, 0x52#8] =
      .ok (⟨.addg2, [.spec (.plain (.register 0#4)), .spec (.plain (.register 2#4))]⟩, []) ∧
    decode [0xF5#8, 0x51#8, 0xFA#8] = .ok (⟨.sobgtr, [.spec (.plain (.register 1#4)), .displ8 0xFA#8]⟩, []) ∧
    decode [0xBB#8, 0x8F#8, 0x3F#8, 0x00#8] = .ok (⟨.pushr, [.spec (.plain (.immediate (.word 0x003F#16)))]⟩, []) ∧
    decode [0x9E#8, 0x48#8, 0xC7#8, 0x34#8, 0x12#8, 0x52#8] =
      .ok (⟨.movab, [.spec (.indexed 8#4 (.disp16 7#4 0x1234#16)), .spec (.plain (.register 2#4))]⟩, []) ∧
    decode [0x8F#8, 0x51#8, 0x00#8, 0x01#8, 0x04#8, 0x00#8, 0xFE#8, 0xFF#8, 0x01#8] =
      .ok (⟨.caseb, [.spec (.plain (.register 1#4)), .spec (.plain (.literal 0#6)), .spec (.plain (.literal 1#6)),
        .displList [0x0004#16, 0xFFFE#16]]⟩, [0x01#8]) ∧
    decode [0xAF#8, 0x51#8, 0x00#8, 0x52#8, 0x04#8, 0x00#8, 0xFE#8, 0xFF#8, 0x01#8, 0x01#8] 1#32 =
      .ok (⟨.casew, [.spec (.plain (.register 1#4)), .spec (.plain (.literal 0#6)), .spec (.plain (.register 2#4)),
        .displList [0x0004#16, 0xFFFE#16]]⟩, [0x01#8, 0x01#8])

/-- R96, D27. -/
def Obligations.NamesOfRows : Prop :=
  (∀ i : Instr, rowOf i.name = some i) ∧
    rowOf "CLRF" = some .clrl ∧ rowOf "CLRD" = some .clrq ∧ rowOf "CLRG" = some .clrq ∧
    rowOf "MOVAF" = some .moval ∧ rowOf "MOVAD" = some .movaq ∧ rowOf "MOVAG" = some .movaq ∧
    rowOf "PUSHAF" = some .pushal ∧ rowOf "PUSHAD" = some .pushaq ∧ rowOf "PUSHAG" = some .pushaq ∧
    rowOf "BGEQU" = some .bcc ∧ rowOf "BLSSU" = some .bcs ∧ rowOf "BEQLU" = some .beql ∧ rowOf "BNEQU" = some .bneq ∧
    (∀ (m : String) (i : Instr), rowOf m = some i → m = i.name ∨ m ∈ ["CLRF", "CLRD", "CLRG", "MOVAF", "MOVAD", "MOVAG",
      "PUSHAF", "PUSHAD", "PUSHAG", "BGEQU", "BLSSU", "BEQLU", "BNEQU"])

/-- R85: "reg" means the operand is written in register mode, row 2. The last clause: rows 1 and 2 are R62's; row 6 is DEDUCED (log
entry 12); rows 11, 12 and 16, which R85 prints without syntax, are the model's choice (log entry 22). -/
def Obligations.RegisterModeFact : Prop :=
  ∀ sp : Specifier, 1 ≤ rowNumber (addrRow sp) ∧ rowNumber (addrRow sp) ≤ 20 ∧
    (10 < rowNumber (addrRow sp) ↔ ∃ rx base, sp = .indexed rx base) ∧
    (inRegister sp = true ↔ ∃ rn, sp = .plain (.register rn)) ∧
    (inMemory sp = false ↔ rowNumber (addrRow sp) ∈ [1, 2, 6, 11, 12, 16])

/-- R607. That kernel is 0, executive 1, supervisor 2, user 3 is PRESUMED, log entry 13 (R38, R614). -/
def Obligations.ChmStackIsTheMinimum : Prop :=
  (∀ row ∈ ([(.chmk, .kernel), (.chme, .executive), (.chms, .supervisor), (.chmu, .user)] : List (Instr × Mode)),
      chmMode row.1 = some row.2 ∧
      (∀ current : Mode, ∃ y, chmStack row.1 current = some y ∧ modeNumber y = min (modeNumber row.2) (modeNumber current)) ∧
      ∀ (s : State) (e : Entry), s.Ready e →
        exec row.1 s = .next (s.charge (Cost.add { c := 12, r := 1, w := 3 } (adders e.facts)))) ∧
    modeNumber .kernel = 0 ∧ modeNumber .executive = 1 ∧ modeNumber .supervisor = 2 ∧ modeNumber .user = 3 ∧
    chmStack .chmu .kernel = some .kernel ∧
    (∀ i : Instr, (chmMode i).isSome = true ↔ i ∈ ([.chmk, .chme, .chms, .chmu] : List Instr)) ∧
    (∀ (i : Instr) (current : Mode), (chmStack i current).isSome = (chmMode i).isSome)

/-- R10. -/
def Obligations.EvalAdditiveMonotone : Prop :=
  ∀ (d : Delays) (a b : Cost),
    a.eval d = a.c + a.r * d.tR + a.w * d.tW + a.rst * d.rst + a.pfl * d.pfl + a.mpr * d.mpr ∧
    (a.add b).eval d = a.eval d + b.eval d ∧ (a.le b → a.eval d ≤ b.eval d)

/-- R620. -/
def Obligations.WorkedExamples : Prop :=
  ∀ d : Delays, d = { tR := 2, tW := 3, rst := 4, pfl := 5, mpr := 6 } →
    (∀ (p : Params) (pick : Cost) (ev : Event) (lo hi : Nat),
      (ev, lo, hi) ∈ [(Event.hwInterrupt, 34, 34), (.swInterrupt, 31, 31), (.exception, 38, 78),
        (.instr (.name "CHMK") {}, 23, 23), (.instr (.name "REI") {}, 16, 21), (.instr (.name "ADDP4") {}, 42, 42)] →
      ∃ t, Sys2Proof.core.run 1 (State.start p [⟨ev, pick⟩]) = .next t ∧ lo ≤ t.acc.eval d ∧ t.acc.eval d ≤ hi) ∧
    (∀ p : Params, ∃ t, Sys2Proof.core.run 1 (State.start p [⟨.exception, { c := 35, r := 2, w := 3 }⟩]) = .next t ∧
      t.acc.eval d = 48) ∧
    (∀ (p : Params) (pick pick' : Cost), ∃ t,
      Sys2Proof.core.run 2 (State.start p [⟨.instr (.name "CHMK") {}, pick⟩, ⟨.instr (.name "REI") {}, pick'⟩]) = .next t ∧
      Cost.InDraw { c := 28, r := 1, w := 3 } { c := 33, r := 1, w := 3 } t.acc) ∧
    (∀ (p : Params) (pick pick' : Cost), ∃ t,
      Sys2Proof.core.run 2 (State.start p [⟨.hwInterrupt, pick⟩, ⟨.instr (.name "REI") {}, pick'⟩]) = .next t ∧
      Cost.InDraw { c := 38, r := 3, w := 2 } { c := 43, r := 3, w := 2 } t.acc)

/-- R706: acc never decreases; R35: pos advances by exactly 1; R705; R32. -/
def Obligations.StepFrame : Prop :=
  ∀ s t : State, step s = .next t →
    s.refused = none ∧ s.pos < s.trace.length ∧ t.params = s.params ∧ t.trace = s.trace ∧ s.acc.le t.acc ∧
    ((t.refused = none ∧ t.pos = s.pos + 1) ∨ (t.refused.isSome = true ∧ t.pos = s.pos ∧ t.acc = s.acc))

/-- R706: "the step reads nothing of acc". -/
def Obligations.StepReadsNothingOfAcc : Prop :=
  ∀ (s : State) (a : Cost),
    match step s with
    | .next t => step { s with acc := a.add s.acc } = .next { t with acc := a.add t.acc }
    | .fault why => step { s with acc := a.add s.acc } = .fault why
    | .refused why => step { s with acc := a.add s.acc } = .refused why

/-- R706 at the start of a run. -/
def Obligations.BoundedAtReset : Prop :=
  State.reset.Bounded ∧ ∀ (p : Params) (trace : List Entry), (State.start p trace).Bounded

/-- R706: "sum of lo(e) <= acc <= sum of hi(e) componentwise over the events consumed". -/
def Obligations.BoundedKept : Prop :=
  ∀ s t : State, s.Bounded → step s = .next t → t.Bounded

/-- R706, bounds and attainment. The pick of an entry is its choice in the draw (R702 (c), log entry 4). -/
def Obligations.RunBounds : Prop :=
  (∀ (p : Params) (trace : List Entry) (k : Nat) (t : State),
      Sys2Proof.core.run k (State.start p trace) = .next t → t.refused = none →
      t.pos = k ∧ (leastSum p (trace.take k)).le t.acc ∧ t.acc.le (greatestSum p (trace.take k))) ∧
    (∀ (p : Params) (trace : List Entry), (∀ e ∈ trace, Chargeable p e) →
      (∃ low, eventsOf low = eventsOf trace ∧ ∃ t, Sys2Proof.core.run trace.length (State.start p low) = .next t ∧
        t.refused = none ∧ t.pos = trace.length ∧ t.acc = leastSum p trace) ∧
      (∃ high, eventsOf high = eventsOf trace ∧ ∃ t, Sys2Proof.core.run trace.length (State.start p high) = .next t ∧
        t.refused = none ∧ t.pos = trace.length ∧ t.acc = greatestSum p trace))

/-- R706: "The cost of a concatenated trace is the sum of the costs of its parts". -/
def Obligations.ConcatenatedRuns : Prop :=
  ∀ (p : Params) (xs ys : List Entry) (a b : State),
    Sys2Proof.core.run xs.length (State.start p xs) = .next a → a.refused = none →
    Sys2Proof.core.run ys.length (State.start p ys) = .next b → b.refused = none →
    ∃ t, Sys2Proof.core.run (xs.length + ys.length) (State.start p (xs ++ ys)) = .next t ∧ t.refused = none ∧
      t.pos = xs.length + ys.length ∧ t.acc = a.acc.add b.acc

/-- R704: a run ends when pos = length(trace) or when refused is set. -/
def Obligations.RunsEnd : Prop :=
  ∀ s t : State, Sys2Proof.core.run (s.trace.length - s.pos + 1) s ≠ .next t
end

