-- ==== Sys2Proof/Laws/Cost.lean ====
section
/-! SUPPORT. What the arithmetic of costs does (R8, R11). -/

namespace Sys2Proof

@[simp] theorem Cost.add_c (a b : Cost) : (a.add b).c = a.c + b.c := rfl
@[simp] theorem Cost.add_r (a b : Cost) : (a.add b).r = a.r + b.r := rfl
@[simp] theorem Cost.add_w (a b : Cost) : (a.add b).w = a.w + b.w := rfl
@[simp] theorem Cost.add_rst (a b : Cost) : (a.add b).rst = a.rst + b.rst := rfl
@[simp] theorem Cost.add_pfl (a b : Cost) : (a.add b).pfl = a.pfl + b.pfl := rfl
@[simp] theorem Cost.add_mpr (a b : Cost) : (a.add b).mpr = a.mpr + b.mpr := rfl

/-- Two costs with the same six components are the same. -/
theorem Cost.eq_of_components {a b : Cost} (hc : a.c = b.c) (hr : a.r = b.r) (hw : a.w = b.w) (hrst : a.rst = b.rst)
    (hpfl : a.pfl = b.pfl) (hmpr : a.mpr = b.mpr) : a = b := by
  cases a; cases b; simp_all

@[simp] theorem Cost.add_zero (a : Cost) : a.add {} = a := rfl

@[simp] theorem Cost.zero_add (a : Cost) : Cost.add {} a = a := by
  cases a; simp [Cost.add]

theorem Cost.add_assoc (a b d : Cost) : (a.add b).add d = a.add (b.add d) := by
  simp [Cost.add, Nat.add_assoc]

theorem Cost.add_comm (a b : Cost) : a.add b = b.add a := by
  simp [Cost.add, Nat.add_comm]

theorem Cost.le_refl (a : Cost) : a.le a :=
  ⟨Nat.le_refl _, Nat.le_refl _, Nat.le_refl _, Nat.le_refl _, Nat.le_refl _, Nat.le_refl _⟩

theorem Cost.le_trans {a b d : Cost} (h : a.le b) (h' : b.le d) : a.le d := by
  obtain ⟨_, _, _, _, _, _⟩ := h
  obtain ⟨_, _, _, _, _, _⟩ := h'
  refine ⟨?_, ?_, ?_, ?_, ?_, ?_⟩ <;> omega

theorem Cost.le_add (a b : Cost) : a.le (a.add b) :=
  ⟨Nat.le_add_right _ _, Nat.le_add_right _ _, Nat.le_add_right _ _, Nat.le_add_right _ _, Nat.le_add_right _ _,
    Nat.le_add_right _ _⟩

theorem Cost.add_le_add {a b x y : Cost} (h : a.le b) (h' : x.le y) : (a.add x).le (b.add y) := by
  obtain ⟨_, _, _, _, _, _⟩ := h
  obtain ⟨_, _, _, _, _, _⟩ := h'
  refine ⟨?_, ?_, ?_, ?_, ?_, ?_⟩ <;> simp only [Cost.add] <;> omega

theorem Cost.le_antisymm {a b : Cost} (h : a.le b) (h' : b.le a) : a = b := by
  obtain ⟨_, _, _, _, _, _⟩ := h
  obtain ⟨_, _, _, _, _, _⟩ := h'
  apply Cost.eq_of_components <;> omega

@[simp] theorem Cost.sum_nil : Cost.sum [] = {} := rfl
@[simp] theorem Cost.sum_cons (v : Cost) (vs : List Cost) : Cost.sum (v :: vs) = v.add (Cost.sum vs) := rfl

/-- The sum of costs in any grouping. -/
theorem Cost.sum_append (us vs : List Cost) : Cost.sum (us ++ vs) = (Cost.sum us).add (Cost.sum vs) := by
  induction us with
  | nil => simp
  | cons u us ih => simp [ih, Cost.add_assoc]

/-- Whatever is picked, a member of the draw is charged (R11). -/
theorem Cost.clamp_inDraw {lo hi : Cost} (h : lo.le hi) (pick : Cost) : Cost.InDraw lo hi (Cost.clamp lo hi pick) := by
  obtain ⟨_, _, _, _, _, _⟩ := h
  refine ⟨⟨?_, ?_, ?_, ?_, ?_, ?_⟩, ?_, ?_, ?_, ?_, ?_, ?_⟩ <;> simp only [Cost.clamp] <;> omega

/-- A member of the draw that is picked is the one charged (R702 (c)). -/
theorem Cost.clamp_of_inDraw {lo hi pick : Cost} (h : Cost.InDraw lo hi pick) : Cost.clamp lo hi pick = pick := by
  obtain ⟨⟨_, _, _, _, _, _⟩, _, _, _, _, _, _⟩ := h
  apply Cost.eq_of_components <;> simp only [Cost.clamp] <;> omega

/-- The draw of a fixed cell has one member. -/
@[simp] theorem Cost.clamp_self (v pick : Cost) : Cost.clamp v v pick = v := by
  apply Cost.eq_of_components <;> simp only [Cost.clamp] <;> omega

end Sys2Proof
end

