-- ==== Sys2Proof/Laws/Decode.lean ====
section
/-! SUPPORT. What each part of the decoder answers on the encoding of a well-formed part (R84, R86). -/

namespace Sys2Proof

/-! ### Bytes of a constant -/

theorem join16 (x : BitVec 16) : x.extractLsb' 8 8 ++ x.extractLsb' 0 8 = x := by
  rw [BitVec.extractLsb'_append_extractLsb'_eq_extractLsb' (by omega)]
  exact BitVec.extractLsb'_eq_self

theorem join32 (x : BitVec 32) :
    x.extractLsb' 24 8 ++ x.extractLsb' 16 8 ++ x.extractLsb' 8 8 ++ x.extractLsb' 0 8 = x := by
  rw [BitVec.extractLsb'_append_extractLsb'_eq_extractLsb' (by omega),
    BitVec.extractLsb'_append_extractLsb'_eq_extractLsb' (by omega),
    BitVec.extractLsb'_append_extractLsb'_eq_extractLsb' (by omega)]
  exact BitVec.extractLsb'_eq_self

theorem join64 (x : BitVec 64) :
    x.extractLsb' 56 8 ++ x.extractLsb' 48 8 ++ x.extractLsb' 40 8 ++ x.extractLsb' 32 8 ++
      x.extractLsb' 24 8 ++ x.extractLsb' 16 8 ++ x.extractLsb' 8 8 ++ x.extractLsb' 0 8 = x := by
  rw [BitVec.extractLsb'_append_extractLsb'_eq_extractLsb' (by omega),
    BitVec.extractLsb'_append_extractLsb'_eq_extractLsb' (by omega),
    BitVec.extractLsb'_append_extractLsb'_eq_extractLsb' (by omega),
    BitVec.extractLsb'_append_extractLsb'_eq_extractLsb' (by omega),
    BitVec.extractLsb'_append_extractLsb'_eq_extractLsb' (by omega),
    BitVec.extractLsb'_append_extractLsb'_eq_extractLsb' (by omega),
    BitVec.extractLsb'_append_extractLsb'_eq_extractLsb' (by omega)]
  exact BitVec.extractLsb'_eq_self

/-- The low part of a concatenation. -/
theorem low_append {m n : Nat} (a : BitVec m) (b : BitVec n) : (a ++ b).extractLsb' 0 n = b := by
  apply BitVec.eq_of_getLsbD_eq
  intro i hi
  simp only [BitVec.getLsbD_extractLsb', hi, decide_true, Bool.true_and, Nat.zero_add, BitVec.getLsbD_append, if_true]

/-- A part of a concatenation above its low part. -/
theorem high_append {m n k len : Nat} (a : BitVec m) (b : BitVec n) :
    (a ++ b).extractLsb' (n + k) len = a.extractLsb' k len := by
  apply BitVec.eq_of_getLsbD_eq
  intro i hi
  simp only [BitVec.getLsbD_extractLsb', hi, decide_true, Bool.true_and, BitVec.getLsbD_append]
  rw [if_neg (by omega)]
  congr 1
  omega
/-! ### A constant put together from its bytes has those bytes -/

theorem bytes16_append (a b : Byte) : bytes16 (b ++ a) = [a, b] := by
  simp only [bytes16, low_append]
  rw [high_append (k := 0)]; simp

theorem bytes32_append (a b c d : Byte) : bytes32 (d ++ c ++ b ++ a) = [a, b, c, d] := by
  simp only [bytes32, low_append]
  rw [high_append (k := 0) _ a, high_append (k := 8) _ a, high_append (k := 16) _ a, low_append,
    high_append (k := 0) _ b, high_append (k := 8) _ b, low_append, high_append (k := 0) _ c]
  simp

theorem bytes64_append (a b c d e f g h : Byte) :
    bytes64 (h ++ g ++ f ++ e ++ d ++ c ++ b ++ a) = [a, b, c, d, e, f, g, h] := by
  simp only [bytes64, low_append]
  rw [high_append (k := 0) _ a, high_append (k := 8) _ a, high_append (k := 16) _ a, high_append (k := 24) _ a,
    high_append (k := 32) _ a, high_append (k := 40) _ a, high_append (k := 48) _ a, low_append,
    high_append (k := 0) _ b, high_append (k := 8) _ b, high_append (k := 16) _ b, high_append (k := 24) _ b,
    high_append (k := 32) _ b, high_append (k := 40) _ b, low_append,
    high_append (k := 0) _ c, high_append (k := 8) _ c, high_append (k := 16) _ c, high_append (k := 24) _ c,
    high_append (k := 32) _ c, low_append,
    high_append (k := 0) _ d, high_append (k := 8) _ d, high_append (k := 16) _ d, high_append (k := 24) _ d, low_append,
    high_append (k := 0) _ e, high_append (k := 8) _ e, high_append (k := 16) _ e, low_append,
    high_append (k := 0) _ f, high_append (k := 8) _ f, low_append, high_append (k := 0) _ g]
  simp

/-! ### Extensions -/

theorem ext16_bytes16 (mk : BitVec 16 → BaseMode) (x : BitVec 16) (rest : List Byte) :
    ext16 mk (bytes16 x ++ rest) = .ok (mk x, rest) := by
  simp [ext16, bytes16, join16]

theorem ext32_bytes32 (mk : BitVec 32 → BaseMode) (x : BitVec 32) (rest : List Byte) :
    ext32 mk (bytes32 x ++ rest) = .ok (mk x, rest) := by
  simp [ext32, bytes32, join32]

theorem ext64_bytes64 (mk : BitVec 64 → BaseMode) (x : BitVec 64) (rest : List Byte) :
    ext64 mk (bytes64 x ++ rest) = .ok (mk x, rest) := by
  simp [ext64, bytes64, join64]

/-- An immediate of the operand's length is read back. -/
theorem extImm_encode (dt : DType) (x : Imm) (h : x.fits dt = true) (rest : List Byte) :
    extImm dt (x.encode ++ rest) = .ok (.immediate x, rest) := by
  cases x <;> cases dt <;>
    simp_all [Imm.fits, Imm.encode, extImm, ext8, ext16_bytes16, ext32_bytes32, ext64_bytes64]

/-! ### Specifiers -/

/-- The mode of a specifier byte. -/
theorem specByte_mode (mode rn : BitVec 4) : (specByte mode rn).toNat / 16 = mode.toNat := by
  revert mode rn; decide

/-- The register number of a specifier byte. -/
theorem specByte_reg (mode rn : BitVec 4) : (specByte mode rn).extractLsb' 0 4 = rn := by
  revert mode rn; decide

/-- The byte of a short literal has one of the modes 0 to 3, and its low six bits are the constant. -/
theorem literal_byte (n : BitVec 6) :
    (0#2 ++ n : BitVec 8).toNat / 16 < 4 ∧ (0#2 ++ n : BitVec 8).extractLsb' 0 6 = n := by
  revert n; decide

/-- A base mode's specifier byte is no index prefix, and the mode is read back with its extension. -/
theorem parseMode_encode (dt : DType) (base : BaseMode) (h : base.wf dt = true) (rest : List Byte) :
    ∃ b tail, base.encode = b :: tail ∧ b.toNat / 16 ≠ 4 ∧ parseMode dt b (tail ++ rest) = .ok (base, rest) := by
  cases base with
  | literal n =>
    obtain ⟨hm, hn⟩ := literal_byte n
    refine ⟨0#2 ++ n, [], rfl, by omega, ?_⟩
    simp only [parseMode, List.nil_append, hn]
    generalize (0#2 ++ n : BitVec 8).toNat / 16 = m at hm
    rcases m with _ | _ | _ | _ | m
    · rfl
    · rfl
    · rfl
    · rfl
    · omega
  | register rn => exact ⟨_, [], rfl, by rw [specByte_mode]; decide, by simp [parseMode, specByte_mode, specByte_reg]⟩
  | registerDef rn => exact ⟨_, [], rfl, by rw [specByte_mode]; decide, by simp [parseMode, specByte_mode, specByte_reg]⟩
  | autodec rn => exact ⟨_, [], rfl, by rw [specByte_mode]; decide, by simp [parseMode, specByte_mode, specByte_reg]⟩
  | autoinc rn =>
    have hr : rn ≠ 15#4 := by simpa [BaseMode.wf] using h
    exact ⟨_, [], rfl, by rw [specByte_mode]; decide, by simp [parseMode, specByte_mode, specByte_reg, hr]⟩
  | autoincDef rn =>
    have hr : rn ≠ 15#4 := by simpa [BaseMode.wf] using h
    exact ⟨_, [], rfl, by rw [specByte_mode]; decide, by simp [parseMode, specByte_mode, specByte_reg, hr]⟩
  | immediate x =>
    refine ⟨_, _, rfl, by rw [specByte_mode]; decide, ?_⟩
    have hx := extImm_encode dt x (by simpa [BaseMode.wf] using h) rest
    simpa [parseMode, specByte_mode, specByte_reg] using hx
  | absolute addr =>
    refine ⟨_, _, rfl, by rw [specByte_mode]; decide, ?_⟩
    simpa [parseMode, specByte_mode, specByte_reg] using ext32_bytes32 _ _ _
  | disp8 rn d => exact ⟨_, _, rfl, by rw [specByte_mode]; decide, by simp [parseMode, specByte_mode, specByte_reg, ext8]⟩
  | dispDef8 rn d => exact ⟨_, _, rfl, by rw [specByte_mode]; decide, by simp [parseMode, specByte_mode, specByte_reg, ext8]⟩
  | disp16 rn d =>
    refine ⟨_, _, rfl, by rw [specByte_mode]; decide, ?_⟩
    simpa [parseMode, specByte_mode, specByte_reg] using ext16_bytes16 _ _ _
  | dispDef16 rn d =>
    refine ⟨_, _, rfl, by rw [specByte_mode]; decide, ?_⟩
    simpa [parseMode, specByte_mode, specByte_reg] using ext16_bytes16 _ _ _
  | disp32 rn d =>
    refine ⟨_, _, rfl, by rw [specByte_mode]; decide, ?_⟩
    simpa [parseMode, specByte_mode, specByte_reg] using ext32_bytes32 _ _ _
  | dispDef32 rn d =>
    refine ⟨_, _, rfl, by rw [specByte_mode]; decide, ?_⟩
    simpa [parseMode, specByte_mode, specByte_reg] using ext32_bytes32 _ _ _

/-- A well-formed specifier is read back. -/
theorem parseSpec_encode (dt : DType) (sp : Specifier) (h : sp.wf dt = true) (rest : List Byte) :
    parseSpec dt (sp.encode ++ rest) = .ok (sp, rest) := by
  cases sp with
  | plain base =>
    obtain ⟨b, tail, he, hb, hp⟩ := parseMode_encode dt base h rest
    simp only [Specifier.encode, he, List.cons_append, parseSpec, if_neg hb, hp]
  | indexed rx base =>
    obtain ⟨b, tail, he, -, hp⟩ := parseMode_encode dt base h rest
    have h4 : (specByte 4#4 rx).toNat / 16 = 4 := by rw [specByte_mode]; rfl
    simp only [Specifier.encode, he, List.cons_append, parseSpec, if_pos h4, parseBase, hp, specByte_reg]

/-- A list of words is read back, whatever follows. -/
theorem takeWords_encode (ds : List (BitVec 16)) (rest : List Byte) :
    takeWords ds.length (ds.flatMap bytes16 ++ rest) = .ok (ds, rest) := by
  induction ds with
  | nil => rfl
  | cons d ds ih =>
    simp only [List.flatMap_cons, bytes16, List.cons_append, List.nil_append, List.length_cons, takeWords, join16]
    rw [ih]

/-- Fewer words than asked for, and at most one odd byte after them, are cut short. -/
theorem takeWords_short (n : Nat) (ds : List (BitVec 16)) (rest : List Byte) (h : ds.length < n) (hr : rest.length ≤ 1) :
    takeWords n (ds.flatMap bytes16 ++ rest) = .error .truncated := by
  induction ds generalizing n with
  | nil =>
    match n, rest, h, hr with
    | n + 1, [], _, _ => rfl
    | n + 1, [_], _, _ => rfl
  | cons d ds ih =>
    match n, h with
    | n + 1, h =>
      simp only [List.flatMap_cons, bytes16, List.cons_append, List.nil_append, takeWords]
      rw [ih n (by simpa using h)]

/-! ### Operands and instructions -/

/-- A fitting operand is read back, whatever follows. -/
theorem parseOperand_encode (len : Nat) (d : OperandDecl) (o : Operand) (h : o.fits len d = true) (rest : List Byte) :
    parseOperand len d (o.encode ++ rest) = .ok (o, rest) := by
  obtain ⟨name, access, dt, isList⟩ := d
  cases o with
  | spec sp =>
    simp only [Operand.fits, Bool.and_eq_true, bne_iff_ne] at h
    simp only [parseOperand, if_neg h.1, Operand.encode, parseSpec_encode _ _ h.2]
  | displ8 x =>
    simp only [Operand.fits, Bool.and_eq_true, beq_iff_eq, Bool.not_eq_true'] at h
    obtain ⟨⟨rfl, rfl⟩, rfl⟩ := h
    simp [parseOperand, parseDispl, Operand.encode]
  | displ16 x =>
    simp only [Operand.fits, Bool.and_eq_true, beq_iff_eq, Bool.not_eq_true'] at h
    obtain ⟨⟨rfl, rfl⟩, rfl⟩ := h
    simp [parseOperand, parseDispl, Operand.encode, bytes16, join16]
  | displList ds =>
    simp only [Operand.fits, Bool.and_eq_true, beq_iff_eq] at h
    obtain ⟨⟨rfl, rfl⟩, rfl⟩ := h
    simp only [parseOperand, parseDispl, parseList, Operand.encode, if_true, takeWords_encode]

/-- Fitting operands are read back, whatever follows. -/
theorem parseOperands_encode (limit : BitVec 32) (len : Nat) (ds : List OperandDecl) (os : List Operand)
    (h : operandsFit limit len ds os = true) (rest : List Byte) :
    parseOperands limit len ds (os.flatMap Operand.encode ++ rest) = .ok (os, rest) := by
  induction ds generalizing os len with
  | nil =>
    cases os with
    | nil => rfl
    | cons _ _ => simp [operandsFit] at h
  | cons d ds ih =>
    cases os with
    | nil => simp [operandsFit] at h
    | cons o os =>
      simp only [operandsFit, Bool.and_eq_true] at h
      simp only [List.flatMap_cons, List.append_assoc, parseOperands, parseOperand_encode len d o h.1, ih _ os h.2]

/-! ### What the decoder reads is what the bytes are -/

/-- A byte is the specifier byte of its mode and its register number. -/
theorem specByte_of_mode (b : Byte) (m : BitVec 4) (h : b.toNat / 16 = m.toNat) :
    specByte m (b.extractLsb' 0 4) = b := by
  revert b m; decide

/-- A byte of mode 0 to 3 is the byte of its short literal. -/
theorem literal_of_mode (b : Byte) (h : b.toNat / 16 < 4) : (0#2 ++ b.extractLsb' 0 6 : BitVec 8) = b := by
  revert b; decide

/-- An immediate that is read has the operand's length, and its bytes are those read. -/
theorem extImm_eq (dt : DType) (bs rest : List Byte) (m : BaseMode) (h : extImm dt bs = .ok (m, rest)) :
    ∃ x, m = .immediate x ∧ x.fits dt = true ∧ x.encode ++ rest = bs := by
  cases dt <;> simp only [extImm] at h <;> first
  | (rcases bs with _ | ⟨a, bs⟩ <;> simp [ext8] at h; obtain ⟨rfl, rfl⟩ := h; exact ⟨_, rfl, rfl, rfl⟩)
  | (rcases bs with _ | ⟨a, _ | ⟨b, bs⟩⟩ <;> simp [ext16] at h
     obtain ⟨rfl, rfl⟩ := h
     exact ⟨_, rfl, rfl, by simp [Imm.encode, bytes16_append]⟩)
  | (rcases bs with _ | ⟨a, _ | ⟨b, _ | ⟨c, _ | ⟨d, bs⟩⟩⟩⟩ <;> simp [ext32] at h
     obtain ⟨rfl, rfl⟩ := h
     exact ⟨_, rfl, rfl, by simp [Imm.encode, bytes32_append]⟩)
  | (rcases bs with _ | ⟨a, _ | ⟨b, _ | ⟨c, _ | ⟨d, _ | ⟨e, _ | ⟨f, _ | ⟨g, _ | ⟨i, bs⟩⟩⟩⟩⟩⟩⟩⟩ <;> simp [ext64] at h
     obtain ⟨rfl, rfl⟩ := h
     exact ⟨_, rfl, rfl, by simp [Imm.encode, bytes64_append]⟩)

/-- A mode that is read is well formed, and its bytes are those read. -/
theorem parseMode_eq (dt : DType) (b : Byte) (rest : List Byte) (m : BaseMode) (rest' : List Byte)
    (h : parseMode dt b rest = .ok (m, rest')) : m.wf dt = true ∧ m.encode ++ rest' = b :: rest := by
  unfold parseMode at h
  simp only at h
  have hlt : b.toNat / 16 < 16 := by have := b.isLt; omega
  split at h
  all_goals rename_i hm
  · cases h
  · cases h; exact ⟨rfl, by simp [BaseMode.encode, specByte_of_mode b 5#4 hm]⟩
  · cases h; exact ⟨rfl, by simp [BaseMode.encode, specByte_of_mode b 6#4 hm]⟩
  · cases h; exact ⟨rfl, by simp [BaseMode.encode, specByte_of_mode b 7#4 hm]⟩
  · split at h
    · rename_i hr
      obtain ⟨x, rfl, hf, he⟩ := extImm_eq _ _ _ _ h
      refine ⟨hf, ?_⟩
      have := specByte_of_mode b 8#4 hm; rw [hr] at this
      simp [BaseMode.encode, this, he]
    · rename_i hr; cases h; exact ⟨by simpa [BaseMode.wf] using hr, by simp [BaseMode.encode, specByte_of_mode b 8#4 hm]⟩
  · split at h
    · rename_i hr
      have := specByte_of_mode b 9#4 hm; rw [hr] at this
      rcases rest with _ | ⟨a, _ | ⟨b', _ | ⟨c, _ | ⟨d, bs⟩⟩⟩⟩ <;> simp [ext32] at h
      obtain ⟨rfl, rfl⟩ := h; exact ⟨rfl, by simp [BaseMode.encode, this, bytes32_append]⟩
    · rename_i hr; cases h; exact ⟨by simpa [BaseMode.wf] using hr, by simp [BaseMode.encode, specByte_of_mode b 9#4 hm]⟩
  · rcases rest with _ | ⟨a, bs⟩ <;> simp [ext8] at h
    obtain ⟨rfl, rfl⟩ := h
    exact ⟨rfl, by simp [BaseMode.encode, specByte_of_mode b 10#4 hm]⟩
  · rcases rest with _ | ⟨a, bs⟩ <;> simp [ext8] at h
    obtain ⟨rfl, rfl⟩ := h
    exact ⟨rfl, by simp [BaseMode.encode, specByte_of_mode b 11#4 hm]⟩
  · rcases rest with _ | ⟨a, _ | ⟨b', bs⟩⟩ <;> simp [ext16] at h
    obtain ⟨rfl, rfl⟩ := h
    exact ⟨rfl, by simp [BaseMode.encode, specByte_of_mode b 12#4 hm, bytes16_append]⟩
  · rcases rest with _ | ⟨a, _ | ⟨b', bs⟩⟩ <;> simp [ext16] at h
    obtain ⟨rfl, rfl⟩ := h
    exact ⟨rfl, by simp [BaseMode.encode, specByte_of_mode b 13#4 hm, bytes16_append]⟩
  · rcases rest with _ | ⟨a, _ | ⟨b', _ | ⟨c, _ | ⟨d, bs⟩⟩⟩⟩ <;> simp [ext32] at h
    obtain ⟨rfl, rfl⟩ := h
    exact ⟨rfl, by simp [BaseMode.encode, specByte_of_mode b 14#4 hm, bytes32_append]⟩
  · rcases rest with _ | ⟨a, _ | ⟨b', _ | ⟨c, _ | ⟨d, bs⟩⟩⟩⟩ <;> simp [ext32] at h
    obtain ⟨rfl, rfl⟩ := h
    exact ⟨rfl, by simp [BaseMode.encode, specByte_of_mode b 15#4 hm, bytes32_append]⟩
  · cases h
    refine ⟨rfl, ?_⟩
    simp only [BaseMode.encode, List.cons_append, List.nil_append, List.cons.injEq, and_true]
    apply literal_of_mode
    by_contra hge
    have hcases : b.toNat / 16 = 4 ∨ b.toNat / 16 = 5 ∨ b.toNat / 16 = 6 ∨ b.toNat / 16 = 7 ∨ b.toNat / 16 = 8 ∨
        b.toNat / 16 = 9 ∨ b.toNat / 16 = 10 ∨ b.toNat / 16 = 11 ∨ b.toNat / 16 = 12 ∨ b.toNat / 16 = 13 ∨
        b.toNat / 16 = 14 ∨ b.toNat / 16 = 15 := by omega
    simp_all

/-- A specifier that is read is well formed, and its bytes are those read. -/
theorem parseSpec_eq (dt : DType) (bs : List Byte) (sp : Specifier) (rest : List Byte)
    (h : parseSpec dt bs = .ok (sp, rest)) : sp.wf dt = true ∧ sp.encode ++ rest = bs := by
  cases bs with
  | nil => cases h
  | cons b bs =>
    simp only [parseSpec] at h
    split at h
    · rename_i h4
      split at h
      · rename_i base r' hb; cases h
        cases bs with
        | nil => cases hb
        | cons c bs =>
          obtain ⟨h1, h2⟩ := parseMode_eq _ _ _ _ _ hb
          exact ⟨h1, by simp [Specifier.encode, specByte_of_mode b 4#4 h4, h2]⟩
      · cases h
    · split at h
      · rename_i base r' hb; cases h
        exact parseMode_eq _ _ _ _ _ hb
      · cases h

/-- The words that are read are as many as asked for, and with what is left over they are the bytes. -/
theorem takeWords_eq : ∀ (n : Nat) (bs : List Byte) (ds : List (BitVec 16)) (rest : List Byte),
    takeWords n bs = .ok (ds, rest) → ds.length = n ∧ ds.flatMap bytes16 ++ rest = bs
  | 0, bs, ds, rest, h => by cases h; exact ⟨rfl, rfl⟩
  | n + 1, [], ds, rest, h => by cases h
  | n + 1, [a], ds, rest, h => by cases h
  | n + 1, a :: b :: bs, ds, rest, h => by
    simp only [takeWords] at h
    split at h
    · rename_i ds' r hr; cases h
      obtain ⟨h1, h2⟩ := takeWords_eq n bs _ _ hr
      exact ⟨by simp [h1], by simp [bytes16_append, h2]⟩
    · cases h

/-- A displacement list that is read has the length given, and its bytes are those read. -/
theorem parseList_eq (len : Nat) (bs : List Byte) (o : Operand) (rest : List Byte) (h : parseList len bs = .ok (o, rest)) :
    ∃ ds, o = .displList ds ∧ ds.length = len ∧ o.encode ++ rest = bs := by
  simp only [parseList] at h
  split at h
  · rename_i ds r hr; cases h
    obtain ⟨h1, h2⟩ := takeWords_eq len bs _ _ hr
    exact ⟨_, rfl, h1, by simp [Operand.encode, h2]⟩
  · cases h

/-- An operand that is read fits its entry, and its bytes are those read. -/
theorem parseOperand_eq (len : Nat) (d : OperandDecl) (bs : List Byte) (o : Operand) (rest : List Byte)
    (h : parseOperand len d bs = .ok (o, rest)) : o.fits len d = true ∧ o.encode ++ rest = bs := by
  obtain ⟨nm, acc, dt, il⟩ := d
  simp only [parseOperand] at h
  split at h
  · rename_i ha; subst ha
    unfold parseDispl at h
    split at h
    · rename_i hl
      obtain ⟨ds, rfl, hf, he⟩ := parseList_eq _ _ _ _ h
      exact ⟨by simp [Operand.fits, hl, hf], he⟩
    · rename_i hl
      split at h
      · cases h; exact ⟨by simp [Operand.fits, hl], rfl⟩
      · cases h; exact ⟨by simp [Operand.fits, hl], by simp [Operand.encode, bytes16_append]⟩
      · cases h
  · rename_i ha
    split at h
    · rename_i sp r hs; cases h
      obtain ⟨h1, h2⟩ := parseSpec_eq _ _ _ _ hs
      exact ⟨by simp [Operand.fits, ha, h1], h2⟩
    · cases h

/-- Operands that are read fit the list, and their bytes are those read. -/
theorem parseOperands_eq (limit : BitVec 32) : ∀ (len : Nat) (ds : List OperandDecl) (bs : List Byte) (os : List Operand)
    (rest : List Byte), parseOperands limit len ds bs = .ok (os, rest) →
      operandsFit limit len ds os = true ∧ os.flatMap Operand.encode ++ rest = bs
  | len, [], bs, os, rest, h => by cases h; exact ⟨rfl, rfl⟩
  | len, d :: ds, bs, os, rest, h => by
    simp only [parseOperands] at h
    split at h
    · cases h
    · rename_i o r ho
      split at h
      · cases h
      · rename_i os' r' hos; cases h
        obtain ⟨h1, h2⟩ := parseOperand_eq _ _ _ _ _ ho
        obtain ⟨h3, h4⟩ := parseOperands_eq limit _ _ _ _ _ hos
        exact ⟨by simp [operandsFit, h1, h3], by simp [h4, h2]⟩

end Sys2Proof
end

