-- ==== Sys2Proof/Laws/State.lean ====
section
/-! SUPPORT. One lemma per field and update of the state, so that no proof unfolds a record update. -/

namespace Sys2Proof.Machine

open Sys2Proof

@[simp] theorem State.charge_acc (s : State) (v : Cost) : (s.charge v).acc = s.acc.add v := rfl
@[simp] theorem State.charge_pos (s : State) (v : Cost) : (s.charge v).pos = s.pos + 1 := rfl
@[simp] theorem State.charge_refused (s : State) (v : Cost) : (s.charge v).refused = s.refused := rfl
@[simp] theorem State.charge_params (s : State) (v : Cost) : (s.charge v).params = s.params := rfl
@[simp] theorem State.charge_trace (s : State) (v : Cost) : (s.charge v).trace = s.trace := rfl

@[simp] theorem State.refuse_acc (s : State) (why : Reason) : (s.refuse why).acc = s.acc := rfl
@[simp] theorem State.refuse_pos (s : State) (why : Reason) : (s.refuse why).pos = s.pos := rfl
@[simp] theorem State.refuse_refused (s : State) (why : Reason) : (s.refuse why).refused = some why := rfl
@[simp] theorem State.refuse_params (s : State) (why : Reason) : (s.refuse why).params = s.params := rfl
@[simp] theorem State.refuse_trace (s : State) (why : Reason) : (s.refuse why).trace = s.trace := rfl

@[simp] theorem State.start_acc (p : Params) (trace : List Entry) : (State.start p trace).acc = {} := rfl
@[simp] theorem State.start_pos (p : Params) (trace : List Entry) : (State.start p trace).pos = 0 := rfl
@[simp] theorem State.start_refused (p : Params) (trace : List Entry) : (State.start p trace).refused = none := rfl
@[simp] theorem State.start_params (p : Params) (trace : List Entry) : (State.start p trace).params = p := rfl
@[simp] theorem State.start_trace (p : Params) (trace : List Entry) : (State.start p trace).trace = trace := rfl

@[simp] theorem State.withFetchWord_acc (s : State) (nbits w : Nat) : (s.withFetchWord nbits w).acc = s.acc := rfl
@[simp] theorem State.withFetchWord_pos (s : State) (nbits w : Nat) : (s.withFetchWord nbits w).pos = s.pos := rfl
@[simp] theorem State.withFetchWord_refused (s : State) (nbits w : Nat) :
    (s.withFetchWord nbits w).refused = none := rfl
@[simp] theorem State.withFetchWord_params (s : State) (nbits w : Nat) :
    (s.withFetchWord nbits w).params = s.params := rfl
@[simp] theorem State.withFetchWord_trace (s : State) (nbits w : Nat) :
    (s.withFetchWord nbits w).trace = placeAt s.trace s.pos (codeEntry (wordBytes nbits w)) := rfl

end Sys2Proof.Machine
end

