-- ==== Sys2Proof/Laws/Ops.lean ====
section
/-! SUPPORT. What the shared operations of a step can do: cite these and do not unfold the operations. -/

namespace Sys2Proof.Machine

open Sys2Proof

/-- A ready state hands its entry on (R703). -/
theorem runEntry_ready {s : State} {e : Entry} (h : s.Ready e)
    (k : Entry → Host.Outcome State Fault Refusal) : runEntry k s = k e := by
  simp [runEntry, h.notRefused, h.atPos]

/-- If the entry of a state is run at all, the state is ready for it. -/
theorem runEntry_next {s t : State} {k : Entry → Host.Outcome State Fault Refusal} (h : runEntry k s = .next t) :
    ∃ e, s.Ready e ∧ k e = .next t := by
  unfold runEntry at h
  split at h
  · cases h
  · rename_i hr
    split at h
    · cases h
    · rename_i e he
      exact ⟨e, ⟨hr, he⟩, h⟩

/-- A fixed charge charges exactly its cost, whatever is picked. -/
@[simp] theorem applyCharge_fixed (pick : Cost) (s : State) (v extra : Cost) :
    applyCharge pick s (.draw v v extra) = .next (s.charge (v.add extra)) := by
  simp [applyCharge]

/-- A draw with a member charges the picked member, or the one nearest to it. -/
theorem applyCharge_draw {lo hi : Cost} (h : lo.le hi) (pick : Cost) (s : State) (extra : Cost) :
    applyCharge pick s (.draw lo hi extra) = .next (s.charge ((Cost.clamp lo hi pick).add extra)) := by
  simp only [applyCharge, if_pos h]

@[simp] theorem applyCharge_refuse (pick : Cost) (s : State) (why : Reason) :
    applyCharge pick s (.refuse why) = .next (s.refuse why) := rfl

/-- Everything a charge or refusal that gives a next state can do. -/
theorem applyCharge_next {pick : Cost} {s t : State} {ch : Charge} (h : applyCharge pick s ch = .next t) :
    (∃ lo hi extra, ch = .draw lo hi extra ∧ lo.le hi ∧ t = s.charge ((Cost.clamp lo hi pick).add extra)) ∨
    (∃ why, ch = .refuse why ∧ t = s.refuse why) := by
  cases ch with
  | draw lo hi extra =>
    by_cases hle : lo.le hi
    · rw [applyCharge_draw hle] at h
      exact .inl ⟨lo, hi, extra, rfl, hle, (Host.Outcome.next.inj h).symm⟩
    · simp only [applyCharge, if_neg hle] at h
      cases h
  | refuse why => exact .inr ⟨why, rfl, (Host.Outcome.next.inj h).symm⟩

/-- A draw with a member, as the statements say it. -/
theorem chargesDraw_of_eq {o : Host.Outcome State Fault Refusal} {s : State} {pick lo hi extra : Cost} (h : lo.le hi)
    (ho : o = applyCharge pick s (.draw lo hi extra)) : ChargesDraw o s pick lo hi extra := by
  subst ho
  refine ⟨⟨_, Cost.clamp_inDraw h pick, applyCharge_draw h pick s extra⟩, fun hp => ?_⟩
  rw [applyCharge_draw h, Cost.clamp_of_inDraw hp]

/-- The meaning of every row is its cost rule applied to the event at `pos` (R703). -/
theorem exec_eq_runRule (i : Instr) (s : State) : exec i s = runRule (ruleOf i) s := by
  cases i <;> rfl

/-- A rule at a ready state. -/
theorem runRule_ready {s : State} {e : Entry} (h : s.Ready e) (rule : Rule) :
    runRule rule s = applyCharge e.pick s (rule s.params e.facts) :=
  runEntry_ready h _

/-- An instruction at a ready state. -/
theorem exec_ready {s : State} {e : Entry} (h : s.Ready e) (i : Instr) :
    exec i s = applyCharge e.pick s (ruleOf i s.params e.facts) := by
  rw [exec_eq_runRule, runRule_ready h]

/-- A row whose rule is fixed at the entry's facts charges exactly its cost and the adders. -/
theorem exec_of_fixed {s : State} {e : Entry} (h : s.Ready e) {i : Instr} {v : Cost}
    (hr : ruleOf i s.params e.facts = fixed v e.facts) : exec i s = .next (s.charge (v.add (adders e.facts))) := by
  rw [exec_ready h, hr]
  exact applyCharge_fixed _ _ _ _

/-- A row whose rule is a range at the entry's facts draws from it and charges the adders. -/
theorem exec_of_ranged {s : State} {e : Entry} (h : s.Ready e) {i : Instr} {lo hi : Cost} (hle : lo.le hi)
    (hr : ruleOf i s.params e.facts = ranged lo hi e.facts) :
    ChargesDraw (exec i s) s e.pick lo hi (adders e.facts) :=
  chargesDraw_of_eq hle (by rw [exec_ready h, hr]; rfl)

/-- Everything an instruction that gives a next state can do: it charges the member of its draw, or it refuses. -/
theorem exec_next {i : Instr} {s t : State} (h : exec i s = .next t) :
    ∃ e, s.Ready e ∧
      ((∃ lo hi extra, ruleOf i s.params e.facts = .draw lo hi extra ∧ lo.le hi ∧
        t = s.charge ((Cost.clamp lo hi e.pick).add extra)) ∨
       (∃ why, ruleOf i s.params e.facts = .refuse why ∧ t = s.refuse why)) := by
  rw [exec_eq_runRule] at h
  obtain ⟨e, he, h⟩ := runEntry_next h
  exact ⟨e, he, applyCharge_next h⟩

/-- The entry at an index after it was placed there. -/
theorem placeAt_get (trace : List Entry) (index : Nat) (e : Entry) : (placeAt trace index e)[index]? = some e := by
  have hlen : (trace.take index ++ List.replicate (index - trace.length) e).length = index := by
    simp only [List.length_append, List.length_take, List.length_replicate]; omega
  unfold placeAt
  rw [List.getElem?_append_right (by omega), hlen]
  simp

/-- The state with a word placed is ready for the entry of that word. -/
theorem withFetchWord_ready (s : State) (nbits w : Nat) :
    (s.withFetchWord nbits w).Ready (codeEntry (wordBytes nbits w)) :=
  ⟨rfl, placeAt_get _ _ _⟩

end Sys2Proof.Machine
end

