-- ==== Sys2Proof/Laws/PerInstr.lean ====
section
/-! SUPPORT. Statements about every row, one lemma per row. -/

namespace Sys2Proof.Laws.OpcodeRead

open Sys2Proof

/-- R93, R95: the opcode bytes of the row, followed by any bytes, are read as that row and leave those bytes. -/
def Statement (i : Instr) : Prop := ∀ rest : List Byte, decodeOpcode (i.opcode.encode ++ rest) = .ok (i, rest)

theorem adawi : Statement .adawi := fun _ => rfl
theorem addb2 : Statement .addb2 := fun _ => rfl
theorem addl2 : Statement .addl2 := fun _ => rfl
theorem addw2 : Statement .addw2 := fun _ => rfl
theorem addb3 : Statement .addb3 := fun _ => rfl
theorem addl3 : Statement .addl3 := fun _ => rfl
theorem addw3 : Statement .addw3 := fun _ => rfl
theorem adwc : Statement .adwc := fun _ => rfl
theorem ashl : Statement .ashl := fun _ => rfl
theorem ashq : Statement .ashq := fun _ => rfl
theorem bicb2 : Statement .bicb2 := fun _ => rfl
theorem bicl2 : Statement .bicl2 := fun _ => rfl
theorem bicw2 : Statement .bicw2 := fun _ => rfl
theorem bicb3 : Statement .bicb3 := fun _ => rfl
theorem bicl3 : Statement .bicl3 := fun _ => rfl
theorem bicw3 : Statement .bicw3 := fun _ => rfl
theorem bisb2 : Statement .bisb2 := fun _ => rfl
theorem bisl2 : Statement .bisl2 := fun _ => rfl
theorem bisw2 : Statement .bisw2 := fun _ => rfl
theorem bisb3 : Statement .bisb3 := fun _ => rfl
theorem bisl3 : Statement .bisl3 := fun _ => rfl
theorem bisw3 : Statement .bisw3 := fun _ => rfl
theorem bitb : Statement .bitb := fun _ => rfl
theorem bitl : Statement .bitl := fun _ => rfl
theorem bitw : Statement .bitw := fun _ => rfl
theorem clrb : Statement .clrb := fun _ => rfl
theorem clrl : Statement .clrl := fun _ => rfl
theorem clrq : Statement .clrq := fun _ => rfl
theorem clrw : Statement .clrw := fun _ => rfl
theorem cmpb : Statement .cmpb := fun _ => rfl
theorem cmpl : Statement .cmpl := fun _ => rfl
theorem cmpw : Statement .cmpw := fun _ => rfl
theorem cvtbl : Statement .cvtbl := fun _ => rfl
theorem cvtbw : Statement .cvtbw := fun _ => rfl
theorem cvtlb : Statement .cvtlb := fun _ => rfl
theorem cvtlw : Statement .cvtlw := fun _ => rfl
theorem cvtwb : Statement .cvtwb := fun _ => rfl
theorem cvtwl : Statement .cvtwl := fun _ => rfl
theorem decb : Statement .decb := fun _ => rfl
theorem decl : Statement .decl := fun _ => rfl
theorem decw : Statement .decw := fun _ => rfl
theorem divb2 : Statement .divb2 := fun _ => rfl
theorem divl2 : Statement .divl2 := fun _ => rfl
theorem divw2 : Statement .divw2 := fun _ => rfl
theorem divb3 : Statement .divb3 := fun _ => rfl
theorem divl3 : Statement .divl3 := fun _ => rfl
theorem divw3 : Statement .divw3 := fun _ => rfl
theorem ediv : Statement .ediv := fun _ => rfl
theorem emul : Statement .emul := fun _ => rfl
theorem incb : Statement .incb := fun _ => rfl
theorem incl : Statement .incl := fun _ => rfl
theorem incw : Statement .incw := fun _ => rfl
theorem mcomb : Statement .mcomb := fun _ => rfl
theorem mcoml : Statement .mcoml := fun _ => rfl
theorem mcomw : Statement .mcomw := fun _ => rfl
theorem mnegb : Statement .mnegb := fun _ => rfl
theorem mnegl : Statement .mnegl := fun _ => rfl
theorem mnegw : Statement .mnegw := fun _ => rfl
theorem movb : Statement .movb := fun _ => rfl
theorem movl : Statement .movl := fun _ => rfl
theorem movq : Statement .movq := fun _ => rfl
theorem movw : Statement .movw := fun _ => rfl
theorem movzbw : Statement .movzbw := fun _ => rfl
theorem movzbl : Statement .movzbl := fun _ => rfl
theorem movzwl : Statement .movzwl := fun _ => rfl
theorem mulb2 : Statement .mulb2 := fun _ => rfl
theorem mull2 : Statement .mull2 := fun _ => rfl
theorem mulw2 : Statement .mulw2 := fun _ => rfl
theorem mulb3 : Statement .mulb3 := fun _ => rfl
theorem mull3 : Statement .mull3 := fun _ => rfl
theorem mulw3 : Statement .mulw3 := fun _ => rfl
theorem pushl : Statement .pushl := fun _ => rfl
theorem rotl : Statement .rotl := fun _ => rfl
theorem sbwc : Statement .sbwc := fun _ => rfl
theorem subb2 : Statement .subb2 := fun _ => rfl
theorem subl2 : Statement .subl2 := fun _ => rfl
theorem subw2 : Statement .subw2 := fun _ => rfl
theorem subb3 : Statement .subb3 := fun _ => rfl
theorem subl3 : Statement .subl3 := fun _ => rfl
theorem subw3 : Statement .subw3 := fun _ => rfl
theorem tstb : Statement .tstb := fun _ => rfl
theorem tstl : Statement .tstl := fun _ => rfl
theorem tstw : Statement .tstw := fun _ => rfl
theorem xorb2 : Statement .xorb2 := fun _ => rfl
theorem xorl2 : Statement .xorl2 := fun _ => rfl
theorem xorw2 : Statement .xorw2 := fun _ => rfl
theorem xorb3 : Statement .xorb3 := fun _ => rfl
theorem xorl3 : Statement .xorl3 := fun _ => rfl
theorem xorw3 : Statement .xorw3 := fun _ => rfl
theorem movab : Statement .movab := fun _ => rfl
theorem moval : Statement .moval := fun _ => rfl
theorem movaq : Statement .movaq := fun _ => rfl
theorem movaw : Statement .movaw := fun _ => rfl
theorem pushab : Statement .pushab := fun _ => rfl
theorem pushal : Statement .pushal := fun _ => rfl
theorem pushaq : Statement .pushaq := fun _ => rfl
theorem pushaw : Statement .pushaw := fun _ => rfl
theorem cmpv : Statement .cmpv := fun _ => rfl
theorem cmpzv : Statement .cmpzv := fun _ => rfl
theorem extv : Statement .extv := fun _ => rfl
theorem extzv : Statement .extzv := fun _ => rfl
theorem insv : Statement .insv := fun _ => rfl
theorem ffc : Statement .ffc := fun _ => rfl
theorem ffs : Statement .ffs := fun _ => rfl
theorem acbb : Statement .acbb := fun _ => rfl
theorem acbl : Statement .acbl := fun _ => rfl
theorem acbw : Statement .acbw := fun _ => rfl
theorem aobleq : Statement .aobleq := fun _ => rfl
theorem aoblss : Statement .aoblss := fun _ => rfl
theorem bcc : Statement .bcc := fun _ => rfl
theorem bcs : Statement .bcs := fun _ => rfl
theorem beql : Statement .beql := fun _ => rfl
theorem bgeq : Statement .bgeq := fun _ => rfl
theorem bgtr : Statement .bgtr := fun _ => rfl
theorem bgtru : Statement .bgtru := fun _ => rfl
theorem bleq : Statement .bleq := fun _ => rfl
theorem blequ : Statement .blequ := fun _ => rfl
theorem blss : Statement .blss := fun _ => rfl
theorem bneq : Statement .bneq := fun _ => rfl
theorem bvc : Statement .bvc := fun _ => rfl
theorem bvs : Statement .bvs := fun _ => rfl
theorem bbc : Statement .bbc := fun _ => rfl
theorem bbs : Statement .bbs := fun _ => rfl
theorem bbcc : Statement .bbcc := fun _ => rfl
theorem bbcs : Statement .bbcs := fun _ => rfl
theorem bbsc : Statement .bbsc := fun _ => rfl
theorem bbss : Statement .bbss := fun _ => rfl
theorem bbcci : Statement .bbcci := fun _ => rfl
theorem bbssi : Statement .bbssi := fun _ => rfl
theorem blbc : Statement .blbc := fun _ => rfl
theorem blbs : Statement .blbs := fun _ => rfl
theorem brb : Statement .brb := fun _ => rfl
theorem brw : Statement .brw := fun _ => rfl
theorem bsbb : Statement .bsbb := fun _ => rfl
theorem bsbw : Statement .bsbw := fun _ => rfl
theorem caseb : Statement .caseb := fun _ => rfl
theorem casel : Statement .casel := fun _ => rfl
theorem casew : Statement .casew := fun _ => rfl
theorem jmp : Statement .jmp := fun _ => rfl
theorem jsb : Statement .jsb := fun _ => rfl
theorem rsb : Statement .rsb := fun _ => rfl
theorem sobgeq : Statement .sobgeq := fun _ => rfl
theorem sobgtr : Statement .sobgtr := fun _ => rfl
theorem callg : Statement .callg := fun _ => rfl
theorem calls : Statement .calls := fun _ => rfl
theorem ret : Statement .ret := fun _ => rfl
theorem bicpsw : Statement .bicpsw := fun _ => rfl
theorem bispsw : Statement .bispsw := fun _ => rfl
theorem bpt : Statement .bpt := fun _ => rfl
theorem halt : Statement .halt := fun _ => rfl
theorem index : Statement .index := fun _ => rfl
theorem movpsl : Statement .movpsl := fun _ => rfl
theorem nop : Statement .nop := fun _ => rfl
theorem popr : Statement .popr := fun _ => rfl
theorem pushr : Statement .pushr := fun _ => rfl
theorem xfc : Statement .xfc := fun _ => rfl
theorem insqhi : Statement .insqhi := fun _ => rfl
theorem insqti : Statement .insqti := fun _ => rfl
theorem insque : Statement .insque := fun _ => rfl
theorem remqhi : Statement .remqhi := fun _ => rfl
theorem remqti : Statement .remqti := fun _ => rfl
theorem remque : Statement .remque := fun _ => rfl
theorem cmpc3 : Statement .cmpc3 := fun _ => rfl
theorem cmpc5 : Statement .cmpc5 := fun _ => rfl
theorem locc : Statement .locc := fun _ => rfl
theorem movc3 : Statement .movc3 := fun _ => rfl
theorem movc5 : Statement .movc5 := fun _ => rfl
theorem scanc : Statement .scanc := fun _ => rfl
theorem skpc : Statement .skpc := fun _ => rfl
theorem spanc : Statement .spanc := fun _ => rfl
theorem chme : Statement .chme := fun _ => rfl
theorem chmk : Statement .chmk := fun _ => rfl
theorem chms : Statement .chms := fun _ => rfl
theorem chmu : Statement .chmu := fun _ => rfl
theorem ldpctx : Statement .ldpctx := fun _ => rfl
theorem mfpr : Statement .mfpr := fun _ => rfl
theorem mtpr : Statement .mtpr := fun _ => rfl
theorem prober : Statement .prober := fun _ => rfl
theorem probew : Statement .probew := fun _ => rfl
theorem rei : Statement .rei := fun _ => rfl
theorem svpctx : Statement .svpctx := fun _ => rfl
theorem addd2 : Statement .addd2 := fun _ => rfl
theorem addf2 : Statement .addf2 := fun _ => rfl
theorem addg2 : Statement .addg2 := fun _ => rfl
theorem addd3 : Statement .addd3 := fun _ => rfl
theorem addf3 : Statement .addf3 := fun _ => rfl
theorem addg3 : Statement .addg3 := fun _ => rfl
theorem cmpd : Statement .cmpd := fun _ => rfl
theorem cmpf : Statement .cmpf := fun _ => rfl
theorem cmpg : Statement .cmpg := fun _ => rfl
theorem cvtbd : Statement .cvtbd := fun _ => rfl
theorem cvtbf : Statement .cvtbf := fun _ => rfl
theorem cvtbg : Statement .cvtbg := fun _ => rfl
theorem cvtdb : Statement .cvtdb := fun _ => rfl
theorem cvtdf : Statement .cvtdf := fun _ => rfl
theorem cvtdl : Statement .cvtdl := fun _ => rfl
theorem cvtdw : Statement .cvtdw := fun _ => rfl
theorem cvtfb : Statement .cvtfb := fun _ => rfl
theorem cvtfd : Statement .cvtfd := fun _ => rfl
theorem cvtfg : Statement .cvtfg := fun _ => rfl
theorem cvtfl : Statement .cvtfl := fun _ => rfl
theorem cvtfw : Statement .cvtfw := fun _ => rfl
theorem cvtgb : Statement .cvtgb := fun _ => rfl
theorem cvtgf : Statement .cvtgf := fun _ => rfl
theorem cvtgl : Statement .cvtgl := fun _ => rfl
theorem cvtgw : Statement .cvtgw := fun _ => rfl
theorem cvtld : Statement .cvtld := fun _ => rfl
theorem cvtlf : Statement .cvtlf := fun _ => rfl
theorem cvtlg : Statement .cvtlg := fun _ => rfl
theorem cvtwd : Statement .cvtwd := fun _ => rfl
theorem cvtwf : Statement .cvtwf := fun _ => rfl
theorem cvtwg : Statement .cvtwg := fun _ => rfl
theorem cvtrdl : Statement .cvtrdl := fun _ => rfl
theorem cvtrfl : Statement .cvtrfl := fun _ => rfl
theorem cvtrgl : Statement .cvtrgl := fun _ => rfl
theorem divd2 : Statement .divd2 := fun _ => rfl
theorem divf2 : Statement .divf2 := fun _ => rfl
theorem divg2 : Statement .divg2 := fun _ => rfl
theorem divd3 : Statement .divd3 := fun _ => rfl
theorem divf3 : Statement .divf3 := fun _ => rfl
theorem divg3 : Statement .divg3 := fun _ => rfl
theorem mnegd : Statement .mnegd := fun _ => rfl
theorem mnegf : Statement .mnegf := fun _ => rfl
theorem mnegg : Statement .mnegg := fun _ => rfl
theorem movd : Statement .movd := fun _ => rfl
theorem movf : Statement .movf := fun _ => rfl
theorem movg : Statement .movg := fun _ => rfl
theorem muld2 : Statement .muld2 := fun _ => rfl
theorem mulf2 : Statement .mulf2 := fun _ => rfl
theorem mulg2 : Statement .mulg2 := fun _ => rfl
theorem muld3 : Statement .muld3 := fun _ => rfl
theorem mulf3 : Statement .mulf3 := fun _ => rfl
theorem mulg3 : Statement .mulg3 := fun _ => rfl
theorem subd2 : Statement .subd2 := fun _ => rfl
theorem subf2 : Statement .subf2 := fun _ => rfl
theorem subg2 : Statement .subg2 := fun _ => rfl
theorem subd3 : Statement .subd3 := fun _ => rfl
theorem subf3 : Statement .subf3 := fun _ => rfl
theorem subg3 : Statement .subg3 := fun _ => rfl
theorem tstd : Statement .tstd := fun _ => rfl
theorem tstf : Statement .tstf := fun _ => rfl
theorem tstg : Statement .tstg := fun _ => rfl
theorem addp4 : Statement .addp4 := fun _ => rfl
theorem addp6 : Statement .addp6 := fun _ => rfl
theorem ashp : Statement .ashp := fun _ => rfl
theorem cmpp3 : Statement .cmpp3 := fun _ => rfl
theorem cmpp4 : Statement .cmpp4 := fun _ => rfl
theorem crc : Statement .crc := fun _ => rfl
theorem cvtlp : Statement .cvtlp := fun _ => rfl
theorem cvtpl : Statement .cvtpl := fun _ => rfl
theorem cvtps : Statement .cvtps := fun _ => rfl
theorem cvtsp : Statement .cvtsp := fun _ => rfl
theorem cvtpt : Statement .cvtpt := fun _ => rfl
theorem cvttp : Statement .cvttp := fun _ => rfl
theorem divp : Statement .divp := fun _ => rfl
theorem editpc : Statement .editpc := fun _ => rfl
theorem matchc : Statement .matchc := fun _ => rfl
theorem movp : Statement .movp := fun _ => rfl
theorem movtc : Statement .movtc := fun _ => rfl
theorem movtuc : Statement .movtuc := fun _ => rfl
theorem mulp : Statement .mulp := fun _ => rfl
theorem subp4 : Statement .subp4 := fun _ => rfl
theorem subp6 : Statement .subp6 := fun _ => rfl

end Sys2Proof.Laws.OpcodeRead
end

