-- ==== Sys2Proof/Laws/Step.lean ====
section
/-! SUPPORT. What a step and a run of steps can do: cite these and do not unfold the step. -/

namespace Sys2Proof.Machine

open Sys2Proof

/-- A step at a hardware interrupt. -/
theorem step_hwInterrupt {s : State} {pick : Cost} (h : s.Ready ⟨.hwInterrupt, pick⟩) :
    step s = initiateHwInterrupt s :=
  runEntry_ready h _

/-- A step at a software interrupt. -/
theorem step_swInterrupt {s : State} {pick : Cost} (h : s.Ready ⟨.swInterrupt, pick⟩) :
    step s = initiateSwInterrupt s :=
  runEntry_ready h _

/-- A step at an exception. -/
theorem step_exception {s : State} {pick : Cost} (h : s.Ready ⟨.exception, pick⟩) : step s = initiateException s :=
  runEntry_ready h _

/-- A step at an instruction event. -/
theorem step_instr {s : State} {src : Source} {f : Facts} {pick : Cost} (h : s.Ready ⟨.instr src f, pick⟩) :
    step s = stepInstr src s :=
  runEntry_ready h _

/-- Everything a step that gives a next state can do: some entry is at `pos`, and its charge or refusal is applied. -/
theorem step_next {s t : State} (h : step s = .next t) :
    ∃ e ch, s.Ready e ∧ eventCharge s.params e.event = some ch ∧ applyCharge e.pick s ch = .next t := by
  obtain ⟨e, he, h⟩ := runEntry_next h
  obtain ⟨event, pick⟩ := e
  refine ⟨⟨event, pick⟩, ?_⟩
  cases event with
  | hwInterrupt => exact ⟨_, he, rfl, by rw [← h]; exact (runRule_ready he _).symm⟩
  | swInterrupt => exact ⟨_, he, rfl, by rw [← h]; exact (runRule_ready he _).symm⟩
  | exception => exact ⟨_, he, rfl, by rw [← h]; exact (runRule_ready he _).symm⟩
  | instr src f =>
    simp only [stepInstr] at h
    split at h
    · rename_i i hi
      exact ⟨ruleOf i s.params f, he, by simp only [eventCharge, hi], by rw [← h]; exact (exec_ready he i).symm⟩
    · rename_i m hm
      exact ⟨.refuse (.noRow m), he, by simp only [eventCharge, hm], h⟩
    · cases h

/-- The effects of a step that gives a next state: a charge, or a refusal. -/
theorem step_next_effect {s t : State} (h : step s = .next t) :
    ∃ e, s.Ready e ∧
      ((∃ lo hi extra, eventCharge s.params e.event = some (.draw lo hi extra) ∧ lo.le hi ∧
        t = s.charge ((Cost.clamp lo hi e.pick).add extra)) ∨
       (∃ why, eventCharge s.params e.event = some (.refuse why) ∧ t = s.refuse why)) := by
  obtain ⟨e, ch, he, hch, h⟩ := step_next h
  refine ⟨e, he, ?_⟩
  rcases applyCharge_next h with ⟨lo, hi, extra, rfl, hle, rfl⟩ | ⟨why, rfl, rfl⟩
  · exact .inl ⟨lo, hi, extra, hch, hle, rfl⟩
  · exact .inr ⟨why, hch, rfl⟩

/-- A run of no step. -/
@[simp] theorem run_zero (s : State) : Sys2Proof.core.run 0 s = .next s := rfl

/-- A run goes on after a step that gives a next state. -/
theorem run_succ_of_next {s t : State} (h : step s = .next t) (k : Nat) :
    Sys2Proof.core.run (k + 1) s = Sys2Proof.core.run k t := by
  simp only [Host.Core.run, Sys2Proof.core, h]

/-- If a run of one step and more gives a state, its first step gave a next state. -/
theorem run_succ_next {s u : State} {k : Nat} (h : Sys2Proof.core.run (k + 1) s = .next u) :
    ∃ t, step s = .next t ∧ Sys2Proof.core.run k t = .next u := by
  cases hs : step s with
  | next t => exact ⟨t, rfl, by rw [← run_succ_of_next hs, h]⟩
  | fault r => simp only [Host.Core.run, Sys2Proof.core, hs] at h; cases h
  | refused r => simp only [Host.Core.run, Sys2Proof.core, hs] at h; cases h

end Sys2Proof.Machine
end

