-- ==== Sys2Proof/Tests/Slice0.lean ====
section
/-! SUPPORT. The model's own tests: ill-formed terms are refused, the bytes of every row decode to it, the derived vectors of
spec/95, and a witness for the hypotheses of every statement. -/

namespace Sys2Proof.Tests

open Sys2Proof Sys2Proof.Machine

/-! ### Well-formedness: an ill-formed term for each check -/

def r1 : Operand := .spec (.plain (.register 1#4))

theorem test_wf_movl : CodedInstr.wf ⟨.movl, [r1, r1]⟩ = true := by decide
theorem test_wf_no_autoincrement_of_15 : CodedInstr.wf ⟨.movl, [.spec (.plain (.autoinc 15#4)), r1]⟩ = false := by decide
theorem test_wf_no_autoincrement_deferred_of_15 :
    CodedInstr.wf ⟨.movl, [.spec (.plain (.autoincDef 15#4)), r1]⟩ = false := by decide
theorem test_wf_indexed_base_checked :
    CodedInstr.wf ⟨.movl, [.spec (.indexed 2#4 (.autoinc 15#4)), r1]⟩ = false := by decide
theorem test_wf_immediate_length :
    CodedInstr.wf ⟨.movl, [.spec (.plain (.immediate (.word 7#16))), r1]⟩ = false := by decide
theorem test_wf_immediate_length_g : CodedInstr.wf ⟨.movg, [.spec (.plain (.immediate (.quad 7#64))), r1]⟩ = true := by decide
theorem test_wf_too_few_operands : CodedInstr.wf ⟨.movl, [r1]⟩ = false := by decide
theorem test_wf_too_many_operands : CodedInstr.wf ⟨.nop, [r1]⟩ = false := by decide
theorem test_wf_displacement_is_no_specifier : CodedInstr.wf ⟨.brb, [r1]⟩ = false := by decide
theorem test_wf_specifier_is_no_displacement : CodedInstr.wf ⟨.movl, [r1, .displ8 0#8]⟩ = false := by decide
theorem test_wf_byte_displacement : CodedInstr.wf ⟨.brb, [.displ16 0#16]⟩ = false := by decide
theorem test_wf_word_displacement : CodedInstr.wf ⟨.brw, [.displ8 0#8]⟩ = false := by decide
theorem test_wf_list_only_on_case : CodedInstr.wf ⟨.brw, [.displList [0#16]]⟩ = false := by decide
theorem test_wf_case_list_length : CodedInstr.wf ⟨.caseb, [r1, r1, .spec (.plain (.literal 1#6)), .displList [0#16]]⟩ = false ∧
    CodedInstr.wf ⟨.caseb, [r1, r1, .spec (.plain (.literal 1#6)), .displList [0#16, 0#16]]⟩ = true := by decide
theorem test_wf_case_register_limit : CodedInstr.wf ⟨.caseb, [r1, r1, r1, .displList []]⟩ = false ∧
    CodedInstr.wf ⟨.caseb, [r1, r1, r1, .displList [0#16]]⟩ 0x101#32 = false ∧
    CodedInstr.wf ⟨.casew, [r1, r1, r1, .displList [0#16, 0#16]]⟩ 0x10001#32 = true := by decide
theorem test_wf_case_needs_list : CodedInstr.wf ⟨.caseb, [r1, r1, r1, .displ16 0#16]⟩ = false := by decide

/-! ### Decoding: the bytes of every row, written out from its opcode (files 40 to 49) with registers R1, R2, ... as operands
(specifier bytes 51, 52, ...) and a displacement of -6 -/

/-- The operands R1 to Rk. -/
def regs (k : Nat) : List Operand := (List.range k).map fun j => .spec (.plain (.register (BitVec.ofNat 4 (j + 1))))

/-- The bytes are exactly the instruction with these operands, where the limit of a CASEx, R3 here, holds 1. -/
def reads (bytes : List Byte) (row : Instr) (operands : List Operand) : Bool :=
  match decode bytes 1#32 with
  | .ok (ci, []) => ci == ⟨row, operands⟩
  | .ok (_, _ :: _) => false
  | .error _ => false

theorem test_decode_integer_1 :
    (reads [0x58#8, 0x51#8, 0x52#8] .adawi (regs 2) &&
     reads [0x80#8, 0x51#8, 0x52#8] .addb2 (regs 2) &&
     reads [0xC0#8, 0x51#8, 0x52#8] .addl2 (regs 2) &&
     reads [0xA0#8, 0x51#8, 0x52#8] .addw2 (regs 2) &&
     reads [0x81#8, 0x51#8, 0x52#8, 0x53#8] .addb3 (regs 3) &&
     reads [0xC1#8, 0x51#8, 0x52#8, 0x53#8] .addl3 (regs 3) &&
     reads [0xA1#8, 0x51#8, 0x52#8, 0x53#8] .addw3 (regs 3) &&
     reads [0xD8#8, 0x51#8, 0x52#8] .adwc (regs 2) &&
     reads [0x78#8, 0x51#8, 0x52#8, 0x53#8] .ashl (regs 3) &&
     reads [0x79#8, 0x51#8, 0x52#8, 0x53#8] .ashq (regs 3) &&
     reads [0x8A#8, 0x51#8, 0x52#8] .bicb2 (regs 2) &&
     reads [0xCA#8, 0x51#8, 0x52#8] .bicl2 (regs 2) &&
     reads [0xAA#8, 0x51#8, 0x52#8] .bicw2 (regs 2) &&
     reads [0x8B#8, 0x51#8, 0x52#8, 0x53#8] .bicb3 (regs 3) &&
     reads [0xCB#8, 0x51#8, 0x52#8, 0x53#8] .bicl3 (regs 3) &&
     reads [0xAB#8, 0x51#8, 0x52#8, 0x53#8] .bicw3 (regs 3) &&
     reads [0x88#8, 0x51#8, 0x52#8] .bisb2 (regs 2) &&
     reads [0xC8#8, 0x51#8, 0x52#8] .bisl2 (regs 2) &&
     reads [0xA8#8, 0x51#8, 0x52#8] .bisw2 (regs 2) &&
     reads [0x89#8, 0x51#8, 0x52#8, 0x53#8] .bisb3 (regs 3) &&
     reads [0xC9#8, 0x51#8, 0x52#8, 0x53#8] .bisl3 (regs 3) &&
     reads [0xA9#8, 0x51#8, 0x52#8, 0x53#8] .bisw3 (regs 3) &&
     reads [0x93#8, 0x51#8, 0x52#8] .bitb (regs 2) &&
     reads [0xD3#8, 0x51#8, 0x52#8] .bitl (regs 2) &&
     reads [0xB3#8, 0x51#8, 0x52#8] .bitw (regs 2) &&
     reads [0x94#8, 0x51#8] .clrb (regs 1) &&
     reads [0xD4#8, 0x51#8] .clrl (regs 1) &&
     reads [0x7C#8, 0x51#8] .clrq (regs 1) &&
     reads [0xB4#8, 0x51#8] .clrw (regs 1) &&
     reads [0x91#8, 0x51#8, 0x52#8] .cmpb (regs 2) &&
     reads [0xD1#8, 0x51#8, 0x52#8] .cmpl (regs 2)) = true := by
  decide

theorem test_decode_integer_2 :
    (reads [0xB1#8, 0x51#8, 0x52#8] .cmpw (regs 2) &&
     reads [0x98#8, 0x51#8, 0x52#8] .cvtbl (regs 2) &&
     reads [0x99#8, 0x51#8, 0x52#8] .cvtbw (regs 2) &&
     reads [0xF6#8, 0x51#8, 0x52#8] .cvtlb (regs 2) &&
     reads [0xF7#8, 0x51#8, 0x52#8] .cvtlw (regs 2) &&
     reads [0x33#8, 0x51#8, 0x52#8] .cvtwb (regs 2) &&
     reads [0x32#8, 0x51#8, 0x52#8] .cvtwl (regs 2) &&
     reads [0x97#8, 0x51#8] .decb (regs 1) &&
     reads [0xD7#8, 0x51#8] .decl (regs 1) &&
     reads [0xB7#8, 0x51#8] .decw (regs 1) &&
     reads [0x86#8, 0x51#8, 0x52#8] .divb2 (regs 2) &&
     reads [0xC6#8, 0x51#8, 0x52#8] .divl2 (regs 2) &&
     reads [0xA6#8, 0x51#8, 0x52#8] .divw2 (regs 2) &&
     reads [0x87#8, 0x51#8, 0x52#8, 0x53#8] .divb3 (regs 3) &&
     reads [0xC7#8, 0x51#8, 0x52#8, 0x53#8] .divl3 (regs 3) &&
     reads [0xA7#8, 0x51#8, 0x52#8, 0x53#8] .divw3 (regs 3) &&
     reads [0x7B#8, 0x51#8, 0x52#8, 0x53#8, 0x54#8] .ediv (regs 4) &&
     reads [0x7A#8, 0x51#8, 0x52#8, 0x53#8, 0x54#8] .emul (regs 4) &&
     reads [0x96#8, 0x51#8] .incb (regs 1) &&
     reads [0xD6#8, 0x51#8] .incl (regs 1) &&
     reads [0xB6#8, 0x51#8] .incw (regs 1) &&
     reads [0x92#8, 0x51#8, 0x52#8] .mcomb (regs 2) &&
     reads [0xD2#8, 0x51#8, 0x52#8] .mcoml (regs 2) &&
     reads [0xB2#8, 0x51#8, 0x52#8] .mcomw (regs 2) &&
     reads [0x8E#8, 0x51#8, 0x52#8] .mnegb (regs 2) &&
     reads [0xCE#8, 0x51#8, 0x52#8] .mnegl (regs 2) &&
     reads [0xAE#8, 0x51#8, 0x52#8] .mnegw (regs 2) &&
     reads [0x90#8, 0x51#8, 0x52#8] .movb (regs 2) &&
     reads [0xD0#8, 0x51#8, 0x52#8] .movl (regs 2) &&
     reads [0x7D#8, 0x51#8, 0x52#8] .movq (regs 2) &&
     reads [0xB0#8, 0x51#8, 0x52#8] .movw (regs 2)) = true := by
  decide

theorem test_decode_integer_3 :
    (reads [0x9A#8, 0x51#8, 0x52#8] .movzbw (regs 2) &&
     reads [0x9B#8, 0x51#8, 0x52#8] .movzbl (regs 2) &&
     reads [0x3C#8, 0x51#8, 0x52#8] .movzwl (regs 2) &&
     reads [0x84#8, 0x51#8, 0x52#8] .mulb2 (regs 2) &&
     reads [0xC4#8, 0x51#8, 0x52#8] .mull2 (regs 2) &&
     reads [0xA4#8, 0x51#8, 0x52#8] .mulw2 (regs 2) &&
     reads [0x85#8, 0x51#8, 0x52#8, 0x53#8] .mulb3 (regs 3) &&
     reads [0xC5#8, 0x51#8, 0x52#8, 0x53#8] .mull3 (regs 3) &&
     reads [0xA5#8, 0x51#8, 0x52#8, 0x53#8] .mulw3 (regs 3) &&
     reads [0xDD#8, 0x51#8] .pushl (regs 1) &&
     reads [0x9C#8, 0x51#8, 0x52#8, 0x53#8] .rotl (regs 3) &&
     reads [0xD9#8, 0x51#8, 0x52#8] .sbwc (regs 2) &&
     reads [0x82#8, 0x51#8, 0x52#8] .subb2 (regs 2) &&
     reads [0xC2#8, 0x51#8, 0x52#8] .subl2 (regs 2) &&
     reads [0xA2#8, 0x51#8, 0x52#8] .subw2 (regs 2) &&
     reads [0x83#8, 0x51#8, 0x52#8, 0x53#8] .subb3 (regs 3) &&
     reads [0xC3#8, 0x51#8, 0x52#8, 0x53#8] .subl3 (regs 3) &&
     reads [0xA3#8, 0x51#8, 0x52#8, 0x53#8] .subw3 (regs 3) &&
     reads [0x95#8, 0x51#8] .tstb (regs 1) &&
     reads [0xD5#8, 0x51#8] .tstl (regs 1) &&
     reads [0xB5#8, 0x51#8] .tstw (regs 1) &&
     reads [0x8C#8, 0x51#8, 0x52#8] .xorb2 (regs 2) &&
     reads [0xCC#8, 0x51#8, 0x52#8] .xorl2 (regs 2) &&
     reads [0xAC#8, 0x51#8, 0x52#8] .xorw2 (regs 2) &&
     reads [0x8D#8, 0x51#8, 0x52#8, 0x53#8] .xorb3 (regs 3) &&
     reads [0xCD#8, 0x51#8, 0x52#8, 0x53#8] .xorl3 (regs 3) &&
     reads [0xAD#8, 0x51#8, 0x52#8, 0x53#8] .xorw3 (regs 3)) = true := by
  decide

theorem test_decode_addressField :
    (reads [0x9E#8, 0x51#8, 0x52#8] .movab (regs 2) &&
     reads [0xDE#8, 0x51#8, 0x52#8] .moval (regs 2) &&
     reads [0x7E#8, 0x51#8, 0x52#8] .movaq (regs 2) &&
     reads [0x3E#8, 0x51#8, 0x52#8] .movaw (regs 2) &&
     reads [0x9F#8, 0x51#8] .pushab (regs 1) &&
     reads [0xDF#8, 0x51#8] .pushal (regs 1) &&
     reads [0x7F#8, 0x51#8] .pushaq (regs 1) &&
     reads [0x3F#8, 0x51#8] .pushaw (regs 1) &&
     reads [0xEC#8, 0x51#8, 0x52#8, 0x53#8, 0x54#8] .cmpv (regs 4) &&
     reads [0xED#8, 0x51#8, 0x52#8, 0x53#8, 0x54#8] .cmpzv (regs 4) &&
     reads [0xEE#8, 0x51#8, 0x52#8, 0x53#8, 0x54#8] .extv (regs 4) &&
     reads [0xEF#8, 0x51#8, 0x52#8, 0x53#8, 0x54#8] .extzv (regs 4) &&
     reads [0xF0#8, 0x51#8, 0x52#8, 0x53#8, 0x54#8] .insv (regs 4) &&
     reads [0xEB#8, 0x51#8, 0x52#8, 0x53#8, 0x54#8] .ffc (regs 4) &&
     reads [0xEA#8, 0x51#8, 0x52#8, 0x53#8, 0x54#8] .ffs (regs 4)) = true := by
  decide

theorem test_decode_control_1 :
    (reads [0x9D#8, 0x51#8, 0x52#8, 0x53#8, 0xFA#8, 0xFF#8] .acbb (regs 3 ++ [.displ16 0xFFFA#16]) &&
     reads [0xF1#8, 0x51#8, 0x52#8, 0x53#8, 0xFA#8, 0xFF#8] .acbl (regs 3 ++ [.displ16 0xFFFA#16]) &&
     reads [0x3D#8, 0x51#8, 0x52#8, 0x53#8, 0xFA#8, 0xFF#8] .acbw (regs 3 ++ [.displ16 0xFFFA#16]) &&
     reads [0xF3#8, 0x51#8, 0x52#8, 0xFA#8] .aobleq (regs 2 ++ [.displ8 0xFA#8]) &&
     reads [0xF2#8, 0x51#8, 0x52#8, 0xFA#8] .aoblss (regs 2 ++ [.displ8 0xFA#8]) &&
     reads [0x1E#8, 0xFA#8] .bcc (regs 0 ++ [.displ8 0xFA#8]) &&
     reads [0x1F#8, 0xFA#8] .bcs (regs 0 ++ [.displ8 0xFA#8]) &&
     reads [0x13#8, 0xFA#8] .beql (regs 0 ++ [.displ8 0xFA#8]) &&
     reads [0x18#8, 0xFA#8] .bgeq (regs 0 ++ [.displ8 0xFA#8]) &&
     reads [0x14#8, 0xFA#8] .bgtr (regs 0 ++ [.displ8 0xFA#8]) &&
     reads [0x1A#8, 0xFA#8] .bgtru (regs 0 ++ [.displ8 0xFA#8]) &&
     reads [0x15#8, 0xFA#8] .bleq (regs 0 ++ [.displ8 0xFA#8]) &&
     reads [0x1B#8, 0xFA#8] .blequ (regs 0 ++ [.displ8 0xFA#8]) &&
     reads [0x19#8, 0xFA#8] .blss (regs 0 ++ [.displ8 0xFA#8]) &&
     reads [0x12#8, 0xFA#8] .bneq (regs 0 ++ [.displ8 0xFA#8]) &&
     reads [0x1C#8, 0xFA#8] .bvc (regs 0 ++ [.displ8 0xFA#8]) &&
     reads [0x1D#8, 0xFA#8] .bvs (regs 0 ++ [.displ8 0xFA#8]) &&
     reads [0xE1#8, 0x51#8, 0x52#8, 0xFA#8] .bbc (regs 2 ++ [.displ8 0xFA#8]) &&
     reads [0xE0#8, 0x51#8, 0x52#8, 0xFA#8] .bbs (regs 2 ++ [.displ8 0xFA#8]) &&
     reads [0xE5#8, 0x51#8, 0x52#8, 0xFA#8] .bbcc (regs 2 ++ [.displ8 0xFA#8]) &&
     reads [0xE3#8, 0x51#8, 0x52#8, 0xFA#8] .bbcs (regs 2 ++ [.displ8 0xFA#8]) &&
     reads [0xE4#8, 0x51#8, 0x52#8, 0xFA#8] .bbsc (regs 2 ++ [.displ8 0xFA#8]) &&
     reads [0xE2#8, 0x51#8, 0x52#8, 0xFA#8] .bbss (regs 2 ++ [.displ8 0xFA#8]) &&
     reads [0xE7#8, 0x51#8, 0x52#8, 0xFA#8] .bbcci (regs 2 ++ [.displ8 0xFA#8]) &&
     reads [0xE6#8, 0x51#8, 0x52#8, 0xFA#8] .bbssi (regs 2 ++ [.displ8 0xFA#8]) &&
     reads [0xE9#8, 0x51#8, 0xFA#8] .blbc (regs 1 ++ [.displ8 0xFA#8]) &&
     reads [0xE8#8, 0x51#8, 0xFA#8] .blbs (regs 1 ++ [.displ8 0xFA#8]) &&
     reads [0x11#8, 0xFA#8] .brb (regs 0 ++ [.displ8 0xFA#8]) &&
     reads [0x31#8, 0xFA#8, 0xFF#8] .brw (regs 0 ++ [.displ16 0xFFFA#16]) &&
     reads [0x10#8, 0xFA#8] .bsbb (regs 0 ++ [.displ8 0xFA#8]) &&
     reads [0x30#8, 0xFA#8, 0xFF#8] .bsbw (regs 0 ++ [.displ16 0xFFFA#16])) = true := by
  decide

theorem test_decode_control_2 :
    (reads [0x8F#8, 0x51#8, 0x52#8, 0x53#8, 0xFA#8, 0xFF#8, 0x06#8, 0x00#8] .caseb (regs 3 ++ [.displList [0xFFFA#16, 6#16]]) &&
     reads [0xCF#8, 0x51#8, 0x52#8, 0x53#8, 0xFA#8, 0xFF#8, 0x06#8, 0x00#8] .casel (regs 3 ++ [.displList [0xFFFA#16, 6#16]]) &&
     reads [0xAF#8, 0x51#8, 0x52#8, 0x53#8, 0xFA#8, 0xFF#8, 0x06#8, 0x00#8] .casew (regs 3 ++ [.displList [0xFFFA#16, 6#16]]) &&
     reads [0x17#8, 0x51#8] .jmp (regs 1) &&
     reads [0x16#8, 0x51#8] .jsb (regs 1) &&
     reads [0x05#8] .rsb (regs 0) &&
     reads [0xF4#8, 0x51#8, 0xFA#8] .sobgeq (regs 1 ++ [.displ8 0xFA#8]) &&
     reads [0xF5#8, 0x51#8, 0xFA#8] .sobgtr (regs 1 ++ [.displ8 0xFA#8])) = true := by
  decide

theorem test_decode_procedure :
    (reads [0xFA#8, 0x51#8, 0x52#8] .callg (regs 2) &&
     reads [0xFB#8, 0x51#8, 0x52#8] .calls (regs 2) &&
     reads [0x04#8] .ret (regs 0)) = true := by
  decide

theorem test_decode_miscellaneous :
    (reads [0xB9#8, 0x51#8] .bicpsw (regs 1) &&
     reads [0xB8#8, 0x51#8] .bispsw (regs 1) &&
     reads [0x03#8] .bpt (regs 0) &&
     reads [0x00#8] .halt (regs 0) &&
     reads [0x0A#8, 0x51#8, 0x52#8, 0x53#8, 0x54#8, 0x55#8, 0x56#8] .index (regs 6) &&
     reads [0xDC#8, 0x51#8] .movpsl (regs 1) &&
     reads [0x01#8] .nop (regs 0) &&
     reads [0xBA#8, 0x51#8] .popr (regs 1) &&
     reads [0xBB#8, 0x51#8] .pushr (regs 1) &&
     reads [0xFC#8] .xfc (regs 0)) = true := by
  decide

theorem test_decode_queue :
    (reads [0x5C#8, 0x51#8, 0x52#8] .insqhi (regs 2) &&
     reads [0x5D#8, 0x51#8, 0x52#8] .insqti (regs 2) &&
     reads [0x0E#8, 0x51#8, 0x52#8] .insque (regs 2) &&
     reads [0x5E#8, 0x51#8, 0x52#8] .remqhi (regs 2) &&
     reads [0x5F#8, 0x51#8, 0x52#8] .remqti (regs 2) &&
     reads [0x0F#8, 0x51#8, 0x52#8] .remque (regs 2)) = true := by
  decide

theorem test_decode_characterString :
    (reads [0x29#8, 0x51#8, 0x52#8, 0x53#8] .cmpc3 (regs 3) &&
     reads [0x2D#8, 0x51#8, 0x52#8, 0x53#8, 0x54#8, 0x55#8] .cmpc5 (regs 5) &&
     reads [0x3A#8, 0x51#8, 0x52#8, 0x53#8] .locc (regs 3) &&
     reads [0x28#8, 0x51#8, 0x52#8, 0x53#8] .movc3 (regs 3) &&
     reads [0x2C#8, 0x51#8, 0x52#8, 0x53#8, 0x54#8, 0x55#8] .movc5 (regs 5) &&
     reads [0x2A#8, 0x51#8, 0x52#8, 0x53#8, 0x54#8] .scanc (regs 4) &&
     reads [0x3B#8, 0x51#8, 0x52#8, 0x53#8] .skpc (regs 3) &&
     reads [0x2B#8, 0x51#8, 0x52#8, 0x53#8, 0x54#8] .spanc (regs 4)) = true := by
  decide

theorem test_decode_operatingSystem :
    (reads [0xBD#8, 0x51#8] .chme (regs 1) &&
     reads [0xBC#8, 0x51#8] .chmk (regs 1) &&
     reads [0xBE#8, 0x51#8] .chms (regs 1) &&
     reads [0xBF#8, 0x51#8] .chmu (regs 1) &&
     reads [0x06#8] .ldpctx (regs 0) &&
     reads [0xDB#8, 0x51#8, 0x52#8] .mfpr (regs 2) &&
     reads [0xDA#8, 0x51#8, 0x52#8] .mtpr (regs 2) &&
     reads [0x0C#8, 0x51#8, 0x52#8, 0x53#8] .prober (regs 3) &&
     reads [0x0D#8, 0x51#8, 0x52#8, 0x53#8] .probew (regs 3) &&
     reads [0x02#8] .rei (regs 0) &&
     reads [0x07#8] .svpctx (regs 0)) = true := by
  decide

theorem test_decode_floating_1 :
    (reads [0x60#8, 0x51#8, 0x52#8] .addd2 (regs 2) &&
     reads [0x40#8, 0x51#8, 0x52#8] .addf2 (regs 2) &&
     reads [0xFD#8, 0x40#8, 0x51#8, 0x52#8] .addg2 (regs 2) &&
     reads [0x61#8, 0x51#8, 0x52#8, 0x53#8] .addd3 (regs 3) &&
     reads [0x41#8, 0x51#8, 0x52#8, 0x53#8] .addf3 (regs 3) &&
     reads [0xFD#8, 0x41#8, 0x51#8, 0x52#8, 0x53#8] .addg3 (regs 3) &&
     reads [0x71#8, 0x51#8, 0x52#8] .cmpd (regs 2) &&
     reads [0x51#8, 0x51#8, 0x52#8] .cmpf (regs 2) &&
     reads [0xFD#8, 0x51#8, 0x51#8, 0x52#8] .cmpg (regs 2) &&
     reads [0x6C#8, 0x51#8, 0x52#8] .cvtbd (regs 2) &&
     reads [0x4C#8, 0x51#8, 0x52#8] .cvtbf (regs 2) &&
     reads [0xFD#8, 0x4C#8, 0x51#8, 0x52#8] .cvtbg (regs 2) &&
     reads [0x68#8, 0x51#8, 0x52#8] .cvtdb (regs 2) &&
     reads [0x76#8, 0x51#8, 0x52#8] .cvtdf (regs 2) &&
     reads [0x6A#8, 0x51#8, 0x52#8] .cvtdl (regs 2) &&
     reads [0x69#8, 0x51#8, 0x52#8] .cvtdw (regs 2) &&
     reads [0x48#8, 0x51#8, 0x52#8] .cvtfb (regs 2) &&
     reads [0x56#8, 0x51#8, 0x52#8] .cvtfd (regs 2) &&
     reads [0xFD#8, 0x99#8, 0x51#8, 0x52#8] .cvtfg (regs 2) &&
     reads [0x4A#8, 0x51#8, 0x52#8] .cvtfl (regs 2) &&
     reads [0x49#8, 0x51#8, 0x52#8] .cvtfw (regs 2) &&
     reads [0xFD#8, 0x48#8, 0x51#8, 0x52#8] .cvtgb (regs 2) &&
     reads [0xFD#8, 0x33#8, 0x51#8, 0x52#8] .cvtgf (regs 2) &&
     reads [0xFD#8, 0x4A#8, 0x51#8, 0x52#8] .cvtgl (regs 2) &&
     reads [0xFD#8, 0x49#8, 0x51#8, 0x52#8] .cvtgw (regs 2) &&
     reads [0x6E#8, 0x51#8, 0x52#8] .cvtld (regs 2) &&
     reads [0x4E#8, 0x51#8, 0x52#8] .cvtlf (regs 2) &&
     reads [0xFD#8, 0x4E#8, 0x51#8, 0x52#8] .cvtlg (regs 2) &&
     reads [0x6D#8, 0x51#8, 0x52#8] .cvtwd (regs 2) &&
     reads [0x4D#8, 0x51#8, 0x52#8] .cvtwf (regs 2) &&
     reads [0xFD#8, 0x4D#8, 0x51#8, 0x52#8] .cvtwg (regs 2)) = true := by
  decide

theorem test_decode_floating_2 :
    (reads [0x6B#8, 0x51#8, 0x52#8] .cvtrdl (regs 2) &&
     reads [0x4B#8, 0x51#8, 0x52#8] .cvtrfl (regs 2) &&
     reads [0xFD#8, 0x4B#8, 0x51#8, 0x52#8] .cvtrgl (regs 2) &&
     reads [0x66#8, 0x51#8, 0x52#8] .divd2 (regs 2) &&
     reads [0x46#8, 0x51#8, 0x52#8] .divf2 (regs 2) &&
     reads [0xFD#8, 0x46#8, 0x51#8, 0x52#8] .divg2 (regs 2) &&
     reads [0x67#8, 0x51#8, 0x52#8, 0x53#8] .divd3 (regs 3) &&
     reads [0x47#8, 0x51#8, 0x52#8, 0x53#8] .divf3 (regs 3) &&
     reads [0xFD#8, 0x47#8, 0x51#8, 0x52#8, 0x53#8] .divg3 (regs 3) &&
     reads [0x72#8, 0x51#8, 0x52#8] .mnegd (regs 2) &&
     reads [0x52#8, 0x51#8, 0x52#8] .mnegf (regs 2) &&
     reads [0xFD#8, 0x52#8, 0x51#8, 0x52#8] .mnegg (regs 2) &&
     reads [0x70#8, 0x51#8, 0x52#8] .movd (regs 2) &&
     reads [0x50#8, 0x51#8, 0x52#8] .movf (regs 2) &&
     reads [0xFD#8, 0x50#8, 0x51#8, 0x52#8] .movg (regs 2) &&
     reads [0x64#8, 0x51#8, 0x52#8] .muld2 (regs 2) &&
     reads [0x44#8, 0x51#8, 0x52#8] .mulf2 (regs 2) &&
     reads [0xFD#8, 0x44#8, 0x51#8, 0x52#8] .mulg2 (regs 2) &&
     reads [0x65#8, 0x51#8, 0x52#8, 0x53#8] .muld3 (regs 3) &&
     reads [0x45#8, 0x51#8, 0x52#8, 0x53#8] .mulf3 (regs 3) &&
     reads [0xFD#8, 0x45#8, 0x51#8, 0x52#8, 0x53#8] .mulg3 (regs 3) &&
     reads [0x62#8, 0x51#8, 0x52#8] .subd2 (regs 2) &&
     reads [0x42#8, 0x51#8, 0x52#8] .subf2 (regs 2) &&
     reads [0xFD#8, 0x42#8, 0x51#8, 0x52#8] .subg2 (regs 2) &&
     reads [0x63#8, 0x51#8, 0x52#8, 0x53#8] .subd3 (regs 3) &&
     reads [0x43#8, 0x51#8, 0x52#8, 0x53#8] .subf3 (regs 3) &&
     reads [0xFD#8, 0x43#8, 0x51#8, 0x52#8, 0x53#8] .subg3 (regs 3) &&
     reads [0x73#8, 0x51#8] .tstd (regs 1) &&
     reads [0x53#8, 0x51#8] .tstf (regs 1) &&
     reads [0xFD#8, 0x53#8, 0x51#8] .tstg (regs 1)) = true := by
  decide

theorem test_decode_emulated :
    (reads [0x20#8, 0x51#8, 0x52#8, 0x53#8, 0x54#8] .addp4 (regs 4) &&
     reads [0x21#8, 0x51#8, 0x52#8, 0x53#8, 0x54#8, 0x55#8, 0x56#8] .addp6 (regs 6) &&
     reads [0xF8#8, 0x51#8, 0x52#8, 0x53#8, 0x54#8, 0x55#8, 0x56#8] .ashp (regs 6) &&
     reads [0x35#8, 0x51#8, 0x52#8, 0x53#8] .cmpp3 (regs 3) &&
     reads [0x37#8, 0x51#8, 0x52#8, 0x53#8, 0x54#8] .cmpp4 (regs 4) &&
     reads [0x0B#8, 0x51#8, 0x52#8, 0x53#8, 0x54#8] .crc (regs 4) &&
     reads [0xF9#8, 0x51#8, 0x52#8, 0x53#8] .cvtlp (regs 3) &&
     reads [0x36#8, 0x51#8, 0x52#8, 0x53#8] .cvtpl (regs 3) &&
     reads [0x08#8, 0x51#8, 0x52#8, 0x53#8, 0x54#8] .cvtps (regs 4) &&
     reads [0x09#8, 0x51#8, 0x52#8, 0x53#8, 0x54#8] .cvtsp (regs 4) &&
     reads [0x24#8, 0x51#8, 0x52#8, 0x53#8, 0x54#8, 0x55#8] .cvtpt (regs 5) &&
     reads [0x26#8, 0x51#8, 0x52#8, 0x53#8, 0x54#8, 0x55#8] .cvttp (regs 5) &&
     reads [0x27#8, 0x51#8, 0x52#8, 0x53#8, 0x54#8, 0x55#8, 0x56#8] .divp (regs 6) &&
     reads [0x38#8, 0x51#8, 0x52#8, 0x53#8, 0x54#8] .editpc (regs 4) &&
     reads [0x39#8, 0x51#8, 0x52#8, 0x53#8, 0x54#8] .matchc (regs 4) &&
     reads [0x34#8, 0x51#8, 0x52#8, 0x53#8] .movp (regs 3) &&
     reads [0x2E#8, 0x51#8, 0x52#8, 0x53#8, 0x54#8, 0x55#8, 0x56#8] .movtc (regs 6) &&
     reads [0x2F#8, 0x51#8, 0x52#8, 0x53#8, 0x54#8, 0x55#8, 0x56#8] .movtuc (regs 6) &&
     reads [0x25#8, 0x51#8, 0x52#8, 0x53#8, 0x54#8, 0x55#8, 0x56#8] .mulp (regs 6) &&
     reads [0x22#8, 0x51#8, 0x52#8, 0x53#8, 0x54#8] .subp4 (regs 4) &&
     reads [0x23#8, 0x51#8, 0x52#8, 0x53#8, 0x54#8, 0x55#8, 0x56#8] .subp6 (regs 6)) = true := by
  decide

/-! Every addressing mode (the table of R86), and a constant in its byte order. -/

theorem test_decode_modes :
    (reads [0xD0#8, 0x3F#8, 0x50#8] .movl [.spec (.plain (.literal 63#6)), .spec (.plain (.register 0#4))] &&
     reads [0xD0#8, 0x62#8, 0x53#8] .movl [.spec (.plain (.registerDef 2#4)), .spec (.plain (.register 3#4))] &&
     reads [0xD0#8, 0x7E#8, 0x8E#8] .movl [.spec (.plain (.autodec 14#4)), .spec (.plain (.autoinc 14#4))] &&
     reads [0xD0#8, 0x8F#8, 0x78#8, 0x56#8, 0x34#8, 0x12#8, 0x92#8] .movl
       [.spec (.plain (.immediate (.long 0x12345678#32))), .spec (.plain (.autoincDef 2#4))] &&
     reads [0xD0#8, 0x9F#8, 0x00#8, 0x02#8, 0x00#8, 0x80#8, 0x50#8] .movl
       [.spec (.plain (.absolute 0x80000200#32)), .spec (.plain (.register 0#4))] &&
     reads [0xD0#8, 0xA2#8, 0xFC#8, 0xB3#8, 0x04#8] .movl
       [.spec (.plain (.disp8 2#4 0xFC#8)), .spec (.plain (.dispDef8 3#4 4#8))] &&
     reads [0xD0#8, 0xC2#8, 0x34#8, 0x12#8, 0xD3#8, 0x78#8, 0x56#8] .movl
       [.spec (.plain (.disp16 2#4 0x1234#16)), .spec (.plain (.dispDef16 3#4 0x5678#16))] &&
     reads [0xD0#8, 0xEF#8, 0x04#8, 0x03#8, 0x02#8, 0x01#8, 0xF3#8, 0x08#8, 0x07#8, 0x06#8, 0x05#8] .movl
       [.spec (.plain (.disp32 15#4 0x01020304#32)), .spec (.plain (.dispDef32 3#4 0x05060708#32))] &&
     reads [0xD0#8, 0x48#8, 0x62#8, 0x47#8, 0xAF#8, 0x10#8] .movl
       [.spec (.indexed 8#4 (.registerDef 2#4)), .spec (.indexed 7#4 (.disp8 15#4 0x10#8))] &&
     reads [0x7D#8, 0x8F#8, 0x08#8, 0x07#8, 0x06#8, 0x05#8, 0x04#8, 0x03#8, 0x02#8, 0x01#8, 0x50#8] .movq
       [.spec (.plain (.immediate (.quad 0x0102030405060708#64))), .spec (.plain (.register 0#4))] &&
     reads [0x90#8, 0x8F#8, 0xFF#8, 0x50#8] .movb
       [.spec (.plain (.immediate (.byte 0xFF#8))), .spec (.plain (.register 0#4))]) = true := by
  decide

/-- The reason for which bytes are no instruction. -/
def rejected (bytes : List Byte) : Option DecodeError :=
  match decode bytes with
  | .ok _ => none
  | .error why => some why

theorem test_reject_empty : rejected [] = some .truncated := by decide
theorem test_reject_short_opcode : rejected [0xFD#8] = some .truncated := by decide
theorem test_reject_short_operand : rejected [0xD0#8, 0x50#8] = some .truncated := by decide
theorem test_reject_short_immediate : rejected [0xD0#8, 0x8F#8, 0#8, 0#8, 0#8] = some .truncated := by decide
theorem test_reject_short_displacement : rejected [0x31#8, 0#8] = some .truncated := by decide
theorem test_reject_index_of_index : rejected [0xD0#8, 0x41#8, 0x42#8, 0x50#8] = some .indexOfIndex := by decide
theorem test_reject_no_row : rejected [0x54#8, 0x50#8] = some (.noRow (.one 0x54#8)) := by decide
theorem test_reject_no_row_fd : rejected [0xFD#8, 0xFF#8] = some (.noRow (.fd 0xFF#8)) := by decide
theorem test_reject_short_case_list : rejected [0x8F#8, 1#8, 2#8, 1#8, 4#8, 0#8, 9#8] = some .truncated := by decide
/-- The list of a CASEx ends after limit + 1 words where the limit is a constant (GK15), here a longword immediate 0. -/
theorem test_case_constant_limit : (match decode [0xCF#8, 0x51#8, 0x00#8, 0x8F#8, 0#8, 0#8, 0#8, 0#8, 4#8, 0#8, 9#8, 0#8] with
    | .ok (ci, rest) => ci.operands[3]? == some (.displList [4#16]) && rest == [9#8, 0#8]
    | .error _ => false) = true := by decide
/-- A limit in R3: the list has the words that the value given with the instance says, by its low byte for CASEB (R355 to
R357 read limit.rb, limit.rw, limit.rl). -/
theorem test_case_limit_in_register : (match decode [0x8F#8, 1#8, 2#8, 0x53#8, 4#8, 0#8, 6#8, 0#8, 9#8, 0#8] 0xFFFFFF01#32 with
    | .ok (ci, rest) => ci.operands[3]? == some (.displList [4#16, 6#16]) && rest == [9#8, 0#8]
    | .error _ => false) = true := by decide
theorem test_reject_empty_case_list : rejected [0x8F#8, 1#8, 2#8, 0x53#8] = some .truncated := by decide
theorem test_reject_long_limit :
    (match decode [0xCF#8, 1#8, 2#8, 0x53#8, 4#8, 0#8, 9#8] 0xFFFFFFFF#32 with
    | .ok _ => false
    | .error e => e == .truncated) = true := by decide

/-! ### The derived vectors of spec/95 section 2: the ends of each interval are what a pick below and a pick above it charge -/

/-- The largest pick of the tests. -/
def high : Cost := ⟨1000, 1000, 1000, 1000, 1000, 1000⟩

/-- The state of a run of one event. -/
def one (p : Params) (f : Facts) (pick : Cost) : State := State.start p [⟨.instr (.name "") f, pick⟩]

/-- A vector of a row: facts, parameters, the ends of the cost. -/
def charges (p : Params) (i : Instr) (f : Facts) (lo hi : Cost) : Bool :=
  match exec i (one p f {}), exec i (one p f high) with
  | .next a, .next b =>
    a == { one p f {} with acc := lo, pos := 1 } && b == { one p f high with acc := hi, pos := 1 }
  | _, _ => false

theorem test_vectors_V1_to_V28 :
    (charges {} .addl2 {} { c := 1 } { c := 1 } &&
     charges {} .addl3 {} { c := 1 } { c := 1 } &&
     charges {} .adawi { sumInReg := true } { c := 4 } { c := 4 } &&
     charges {} .adawi { sumInReg := false } { c := 5, r := 1, w := 1 } { c := 5, r := 1, w := 1 } &&
     charges {} .adwc {} { c := 5 } { c := 5 } &&
     charges {} .ashl {} { c := 3 } { c := 4 } &&
     charges {} .ashq {} { c := 4 } { c := 7 } &&
     charges {} .clrl {} { c := 1 } { c := 1 } &&
     charges {} .clrq {} { c := 2 } { c := 2 } &&
     charges {} .cvtbl {} { c := 2 } { c := 2 } &&
     charges {} .cvtlb {} { c := 3 } { c := 3 } &&
     charges {} .divb2 {} { c := 15 } { c := 19 } &&
     charges {} .divw3 {} { c := 23 } { c := 27 } &&
     charges {} .divl2 {} { c := 39 } { c := 43 } &&
     charges {} .divl3 {} { c := 39 } { c := 43 } &&
     charges {} .ediv {} { c := 50, rst := 1 } { c := 54, rst := 1 } &&
     charges {} .emul {} { c := 37 } { c := 37 } &&
     charges {} .mulb2 {} { c := 14 } { c := 15 } &&
     charges {} .mulw3 {} { c := 21 } { c := 22 } &&
     charges {} .mull2 {} { c := 38 } { c := 38 } &&
     charges ⟨true, [⟨.mull3, { c := 10 }, { c := 12 }⟩]⟩ .mull3 {} { c := 10 } { c := 12 } &&
     charges {} .movl {} { c := 1 } { c := 1 } &&
     charges {} .movq {} { c := 1 } { c := 1 } &&
     charges {} .movzwl { unalignedReads := [.w], unalignedWrites := [.l] } { c := 1, r := 1, w := 1 } { c := 1, r := 1, w := 1 } &&
     charges {} .pushl {} { c := 1 } { c := 1 }) = true := by
  decide

theorem test_vectors_V29_to_V56 :
    (charges {} .rotl {} { c := 2 } { c := 2 } &&
     charges {} .sbwc {} { c := 5 } { c := 5 } &&
     charges {} .xorl3 {} { c := 1 } { c := 1 } &&
     charges {} .tstb {} { c := 1 } { c := 1 } &&
     charges {} .movq { unalignedReads := [.q], unalignedWrites := [.q] } { c := 1, r := 2, w := 2 } { c := 1, r := 2, w := 2 } &&
     charges {} .incw { unalignedReads := [.w], unalignedWrites := [.w] } { c := 1, r := 1, w := 1 } { c := 1, r := 1, w := 1 } &&
     charges {} .addl2 { unalignedReads := [.l, .l], unalignedWrites := [.l] } { c := 1, r := 2, w := 1 } { c := 1, r := 2, w := 1 } &&
     charges {} .addb2 {} { c := 1 } { c := 1 } &&
     charges {} .movab {} { c := 1 } { c := 1 } &&
     charges {} .moval {} { c := 1 } { c := 1 } &&
     charges {} .movaq {} { c := 1 } { c := 1 } &&
     charges {} .pushab {} { c := 1 } { c := 1 } &&
     charges {} .pushaq {} { c := 1 } { c := 1 } &&
     charges {} .cmpv { vInReg := true } { c := 9 } { c := 9 } &&
     charges {} .cmpv { vInReg := false } { c := 13, r := 1 } { c := 16, r := 2 } &&
     charges {} .cmpzv { vInReg := true } { c := 9 } { c := 9 } &&
     charges {} .cmpzv { vInReg := false } { c := 13, r := 1 } { c := 16, r := 2 } &&
     charges {} .extv { vInReg := true } { c := 8 } { c := 8 } &&
     charges {} .extv { vInReg := false } { c := 12, r := 1 } { c := 15, r := 2 } &&
     charges {} .extzv { vInReg := true } { c := 8 } { c := 8 } &&
     charges {} .extzv { vInReg := false } { c := 12, r := 1 } { c := 15, r := 2 } &&
     charges {} .ffc { vInReg := true } { c := 14 } { c := 18 } &&
     charges {} .ffc { vInReg := false } { c := 18, r := 1 } { c := 25, r := 2 } &&
     charges {} .ffs { vInReg := true } { c := 13 } { c := 17 } &&
     charges {} .ffs { vInReg := false } { c := 17, r := 1 } { c := 24, r := 2 }) = true := by
  decide

theorem test_vectors_V57_to_V82 :
    (charges {} .insv { vInReg := true } { c := 11 } { c := 12 } &&
     charges {} .insv { vInReg := false } { c := 12, r := 1, w := 1 } { c := 13, r := 2, w := 2 } &&
     charges {} .brb {} { c := 1 } { c := 1 } &&
     charges {} .brw {} { c := 1 } { c := 1 } &&
     charges {} .jmp {} { c := 1 } { c := 1 } &&
     charges {} .bsbb {} { c := 1 } { c := 1 } &&
     charges {} .bsbw {} { c := 1 } { c := 1 } &&
     charges {} .jsb {} { c := 1 } { c := 1 } &&
     charges {} .rsb {} { c := 1 } { c := 1 } &&
     charges {} .beql { mispredicted := false } { c := 1 } { c := 1 } &&
     charges {} .beql { mispredicted := true } { c := 1, mpr := 1 } { c := 1, mpr := 1 } &&
     charges {} .blbs { mispredicted := false } { c := 1 } { c := 1 } &&
     charges {} .blbc { mispredicted := true } { c := 1, mpr := 1 } { c := 1, mpr := 1 } &&
     charges {} .aoblss { mispredicted := false } { c := 2 } { c := 2 } &&
     charges {} .aobleq { mispredicted := true } { c := 2, mpr := 1 } { c := 2, mpr := 1 } &&
     charges {} .sobgtr { mispredicted := false } { c := 1 } { c := 1 } &&
     charges {} .sobgeq { mispredicted := true } { c := 1, mpr := 1 } { c := 1, mpr := 1 } &&
     charges {} .acbb { mispredicted := false } { c := 3 } { c := 3 } &&
     charges {} .acbl { mispredicted := true } { c := 3, mpr := 1 } { c := 3, mpr := 1 } &&
     charges {} .bbs { vInReg := true, mispredicted := false } { c := 5 } { c := 5 } &&
     charges {} .bbs { vInReg := true, mispredicted := true } { c := 5, mpr := 1 } { c := 5, mpr := 1 } &&
     charges {} .bbc { vInReg := false, mispredicted := false } { c := 6, r := 1 } { c := 6, r := 1 } &&
     charges {} .bbc { vInReg := false, mispredicted := true } { c := 6, r := 1, mpr := 1 } { c := 6, r := 1, mpr := 1 } &&
     charges {} .bbss { vInReg := false, mispredicted := false } { c := 6, r := 1, w := 1 } { c := 6, r := 1, w := 1 } &&
     charges {} .bbcc { vInReg := true, mispredicted := false } { c := 5 } { c := 5 }) = true := by
  decide

theorem test_vectors_V83_to_V115 :
    (charges {} .bbssi { vInReg := false, mispredicted := false } { c := 7, r := 1, w := 1 } { c := 7, r := 1, w := 1 } &&
     charges {} .bbcci { vInReg := false, mispredicted := true } { c := 7, r := 1, w := 1, mpr := 1 } { c := 7, r := 1, w := 1, mpr := 1 } &&
     charges {} .bbssi { vInReg := true, mispredicted := false } { c := 5 } { c := 5 } &&
     charges {} .caseb {} { c := 9, r := 1, pfl := 1 } { c := 9, r := 1, pfl := 1 } &&
     charges {} .casew {} { c := 9, r := 1, pfl := 1 } { c := 9, r := 1, pfl := 1 } &&
     charges {} .casel {} { c := 9, r := 1, pfl := 1 } { c := 9, r := 1, pfl := 1 } &&
     charges {} .callg { n := 0 } { c := 12, w := 4, rst := 1 } { c := 13, w := 4, rst := 1 } &&
     charges {} .callg { n := 1 } { c := 12, w := 5, rst := 1 } { c := 13, w := 5, rst := 1 } &&
     charges {} .calls { n := 0 } { c := 12, w := 5, rst := 1 } { c := 13, w := 5, rst := 1 } &&
     charges {} .calls { n := 2 } { c := 12, w := 7, rst := 1 } { c := 13, w := 7, rst := 1 } &&
     charges {} .ret { n := 0, frameKind := .G } { c := 8, r := 2, rst := 1 } { c := 8, r := 2, rst := 1 } &&
     charges {} .ret { n := 3, frameKind := .G } { c := 8, r := 5, rst := 1 } { c := 8, r := 5, rst := 1 } &&
     charges {} .bicpsw {} { c := 5 } { c := 5 } &&
     charges {} .bispsw {} { c := 5 } { c := 5 } &&
     charges {} .bpt {} { c := 28, r := 2, w := 2 } { c := 50, r := 2, w := 8 } &&
     charges {} .halt {} { c := 3 } { c := 3 } &&
     charges {} .index { sizeIsOne := true } { c := 6 } { c := 6 } &&
     charges {} .index { sizeIsOne := false } { c := 39 } { c := 39 } &&
     charges {} .movpsl {} { c := 3 } { c := 3 } &&
     charges {} .nop {} { c := 1 } { c := 1 } &&
     charges {} .popr { n := 0 } { c := 10, rst := 1 } { c := 10, rst := 1 } &&
     charges {} .popr { n := 3 } { c := 10, r := 3, rst := 1 } { c := 10, r := 3, rst := 1 } &&
     charges {} .pushr { n := 0 } { c := 7, rst := 1 } { c := 7, rst := 1 } &&
     charges {} .pushr { n := 3 } { c := 7, w := 3, rst := 1 } { c := 7, w := 3, rst := 1 } &&
     charges {} .xfc {} { c := 28, r := 2, w := 2 } { c := 50, r := 2, w := 8 }) = true := by
  decide

theorem test_vectors_V116_to_V142 :
    (charges {} .insqhi {} { c := 10, r := 2, w := 5 } { c := 10, r := 2, w := 5 } &&
     charges {} .insqti {} { c := 11, r := 3, w := 6 } { c := 11, r := 3, w := 6 } &&
     charges {} .insque {} { c := 3, r := 1, w := 4 } { c := 3, r := 1, w := 4 } &&
     charges {} .remqhi {} { c := 14, r := 3, w := 3 } { c := 14, r := 3, w := 3 } &&
     charges {} .remqti {} { c := 16, r := 4, w := 4 } { c := 16, r := 4, w := 4 } &&
     charges {} .remque {} { c := 5, r := 2, w := 2 } { c := 5, r := 2, w := 2 } &&
     charges {} .insque { unalignedReads := [.l], unalignedWrites := [.l, .l] } { c := 3, r := 2, w := 6 } { c := 3, r := 2, w := 6 } &&
     charges {} .cmpc3 { n := 0 } { c := 8, rst := 1 } { c := 8, rst := 1 } &&
     charges {} .cmpc3 { n := 16 } { c := 120, r := 32, rst := 1 } { c := 120, r := 32, rst := 1 } &&
     charges {} .cmpc5 { n := 0, k := 0 } { c := 9, rst := 1 } { c := 9, rst := 1 } &&
     charges {} .cmpc5 { n := 8, k := 4 } { c := 89, r := 20, rst := 1 } { c := 89, r := 20, rst := 1 } &&
     charges {} .locc { n := 0 } { c := 6, rst := 1 } { c := 6, rst := 1 } &&
     charges {} .locc { n := 10 } { c := 66, r := 10, rst := 1 } { c := 66, r := 10, rst := 1 } &&
     charges {} .movc3 { n := 0 } { c := 16, rst := 1 } { c := 16, rst := 1 } &&
     charges {} .movc3 { n := 4 } { c := 28, r := 4, w := 4, rst := 1 } { c := 28, r := 4, w := 4, rst := 1 } &&
     charges {} .movc5 { n := 0, k := 0 } { c := 30, rst := 1 } { c := 30, rst := 1 } &&
     charges {} .movc5 { n := 2, k := 3 } { c := 42, r := 2, w := 5, rst := 1 } { c := 42, r := 2, w := 5, rst := 1 } &&
     charges {} .scanc { n := 5 } { c := 53, r := 10, rst := 1 } { c := 53, r := 10, rst := 1 } &&
     charges {} .skpc { n := 5 } { c := 36, r := 5, rst := 1 } { c := 36, r := 5, rst := 1 } &&
     charges {} .spanc { n := 5 } { c := 53, r := 10, rst := 1 } { c := 53, r := 10, rst := 1 } &&
     charges {} .chme {} { c := 12, r := 1, w := 3 } { c := 12, r := 1, w := 3 } &&
     charges {} .chmk {} { c := 12, r := 1, w := 3 } { c := 12, r := 1, w := 3 } &&
     charges {} .chms {} { c := 12, r := 1, w := 3 } { c := 12, r := 1, w := 3 } &&
     charges {} .chmu {} { c := 12, r := 1, w := 3 } { c := 12, r := 1, w := 3 } &&
     charges {} .ldpctx {} { c := 22, r := 24, w := 2, rst := 1 } { c := 25, r := 24, w := 2, rst := 1 }) = true := by
  decide

theorem test_vectors_V143_to_V176 :
    (charges {} .mfpr {} { c := 7, rst := 1 } { c := 15, rst := 1 } &&
     charges {} .mtpr {} { c := 7, rst := 1 } { c := 15, rst := 1 } &&
     charges {} .prober {} { c := 11 } { c := 12 } &&
     charges {} .probew {} { c := 11 } { c := 12 } &&
     charges {} .rei {} { c := 16 } { c := 21 } &&
     charges {} .svpctx {} { c := 8, r := 2, w := 20, rst := 1 } { c := 13, r := 2, w := 20, rst := 1 } &&
     charges ⟨false, [⟨.addf2, { c := 4 }, { c := 4 }⟩]⟩ .addf2 {} { c := 4 } { c := 4 } &&
     charges ⟨false, [⟨.divg3, { c := 20 }, { c := 45 }⟩]⟩ .divg3 { unalignedReads := [.q] } { c := 20, r := 2 } { c := 45, r := 2 } &&
     charges {} .addp4 {} { c := 11, r := 1, w := 8, pfl := 1 } { c := 11, r := 1, w := 8, pfl := 1 } &&
     charges {} .addp6 {} { c := 12, r := 1, w := 10, pfl := 1 } { c := 12, r := 1, w := 10, pfl := 1 } &&
     charges {} .ashp {} { c := 12, r := 1, w := 10, pfl := 1 } { c := 12, r := 1, w := 10, pfl := 1 } &&
     charges {} .cmpp3 {} { c := 9, r := 1, w := 7, pfl := 1 } { c := 9, r := 1, w := 7, pfl := 1 } &&
     charges {} .cmpp4 {} { c := 11, r := 1, w := 8, pfl := 1 } { c := 11, r := 1, w := 8, pfl := 1 } &&
     charges {} .crc {} { c := 11, r := 1, w := 8, pfl := 1 } { c := 11, r := 1, w := 8, pfl := 1 } &&
     charges {} .cvtlp {} { c := 9, r := 1, w := 7, pfl := 1 } { c := 9, r := 1, w := 7, pfl := 1 } &&
     charges {} .cvtpl {} { c := 10, r := 1, w := 7, pfl := 1 } { c := 10, r := 1, w := 7, pfl := 1 } &&
     charges {} .cvtps {} { c := 11, r := 1, w := 8, pfl := 1 } { c := 11, r := 1, w := 8, pfl := 1 } &&
     charges {} .cvtsp {} { c := 11, r := 1, w := 8, pfl := 1 } { c := 11, r := 1, w := 8, pfl := 1 } &&
     charges {} .cvtpt {} { c := 11, r := 1, w := 9, pfl := 1 } { c := 11, r := 1, w := 9, pfl := 1 } &&
     charges {} .cvttp {} { c := 11, r := 1, w := 9, pfl := 1 } { c := 11, r := 1, w := 9, pfl := 1 } &&
     charges {} .divp {} { c := 12, r := 1, w := 10, pfl := 1 } { c := 12, r := 1, w := 10, pfl := 1 } &&
     charges {} .editpc {} { c := 11, r := 1, w := 8, pfl := 1 } { c := 11, r := 1, w := 8, pfl := 1 } &&
     charges {} .matchc {} { c := 11, r := 1, w := 8, pfl := 1 } { c := 11, r := 1, w := 8, pfl := 1 } &&
     charges {} .movp {} { c := 9, r := 1, w := 7, pfl := 1 } { c := 9, r := 1, w := 7, pfl := 1 } &&
     charges {} .movtc {} { c := 12, r := 1, w := 10, pfl := 1 } { c := 12, r := 1, w := 10, pfl := 1 }) = true := by
  decide

theorem test_vectors_V177_to_V180 :
    (charges {} .movtuc {} { c := 12, r := 1, w := 10, pfl := 1 } { c := 12, r := 1, w := 10, pfl := 1 } &&
     charges {} .mulp {} { c := 12, r := 1, w := 10, pfl := 1 } { c := 12, r := 1, w := 10, pfl := 1 } &&
     charges {} .subp4 {} { c := 11, r := 1, w := 8, pfl := 1 } { c := 11, r := 1, w := 8, pfl := 1 } &&
     charges {} .subp6 {} { c := 12, r := 1, w := 10, pfl := 1 } { c := 12, r := 1, w := 10, pfl := 1 }) = true := by
  decide

/-- V23 and V157: a `tbd` cell with no supplied cost sets `refused` and nothing else. -/
def refuses (p : Params) (i : Instr) : Bool :=
  match exec i (one p {} {}) with
  | .next t => t == { one p {} {} with refused := some (.tbd i) }
  | _ => false

theorem test_refusals : (refuses ⟨true, []⟩ .mull2 && refuses ⟨true, []⟩ .mull3 && refuses {} .addf2 && refuses {} .tstg &&
    !refuses {} .mull2) = true := by decide
theorem test_no_row_name : step (State.start {} [⟨.instr (.name "POLYF") {}, {}⟩]) =
    .next ((State.start {} [⟨.instr (.name "POLYF") {}, {}⟩]).refuse (.noRow (.text "POLYF"))) := rfl
theorem test_further_name : step (State.start {} [⟨.instr (.name "CLRG") {}, {}⟩]) =
    .next ((State.start {} [⟨.instr (.name "CLRG") {}, {}⟩]).charge { c := 2 }) := rfl
theorem test_undecodable : step (State.start {} [⟨.instr (.code [0xD0#8]) {}, {}⟩]) =
    .refused (.undecodable .truncated) := rfl
theorem test_empty_draw : exec .addf2 (one ⟨false, [⟨.addf2, { c := 5 }, { c := 4 }⟩]⟩ {} {}) =
    .fault (.emptyDraw { c := 5 } { c := 4 }) := rfl

/-- P1 of spec/95: an instruction given by its bytes, ADDL2 (R2)+, R0 with its source unaligned. -/
theorem test_step_by_bytes : step (State.start {} [⟨.instr (.code [0xC0#8, 0x82#8, 0x50#8]) { unalignedReads := [.l] }, {}⟩]) =
    .next ((State.start {} [⟨.instr (.code [0xC0#8, 0x82#8, 0x50#8]) { unalignedReads := [.l] }, {}⟩]).charge
      { c := 1, r := 1 }) := rfl
theorem test_fetch_word : step (State.reset.withFetchWord 8 0x01) =
    .next ((State.reset.withFetchWord 8 0x01).charge { c := 1 }) := rfl
theorem test_fetch_word_fd : decodeTableWord 16 0x40FD = some .addg2 := by decide

/-! R62: ADDL2 (R1), (R2) with both longwords unaligned gives [l, l] and [l]. -/

def placed (access : Access) (dt : DType) (sp : Specifier) : PlacedOperand := ⟨⟨"x", access, dt, false⟩, sp, 1⟩

theorem test_unaligned_lists :
    unalignedReads (fun _ _ => true) [placed .r .l (.plain (.registerDef 1#4)), placed .m .l (.plain (.registerDef 2#4))] = [.l, .l] ∧
    unalignedWrites (fun _ _ => true) [placed .r .l (.plain (.registerDef 1#4)), placed .m .l (.plain (.registerDef 2#4))] = [.l] ∧
    unalignedReads (fun _ _ => true) [placed .a .l (.plain (.registerDef 1#4)), placed .r .b (.plain (.registerDef 1#4)),
      placed .r .d (.plain (.register 1#4)), placed .r .g (.plain (.absolute 0#32))] = [.q] := by decide
theorem test_specifier_rows : rowNumber (addrRow (.plain (.literal 0#6))) = 1 ∧
    rowNumber (addrRow (.indexed 0#4 (.dispDef32 1#4 0#32))) = 20 ∧ inRegister (.plain (.register 0#4)) = true ∧
    inRegister (.plain (.registerDef 0#4)) = false := by decide
theorem test_ibox_empty : iboxSpecifierTime .asPrinted ⟨"src", .r, .l, false⟩ (.plain (.register 0#4)) = none := by decide
theorem test_mask_count : maskCount 0x001C#16 = 3 ∧ maskCount 0xFFFF#16 = 16 := by decide
theorem test_facts_of_pushr : factsMatch ⟨.pushr, [.spec (.plain (.literal 0x1C#6))]⟩ { n := 3 } := by
  refine ⟨fun h => absurd h (by decide), ?_, ?_, fun h => absurd h (by decide), fun _ => by decide⟩
  · intro sp h; cases h
  · intro _ sp c h hc; cases h; cases hc; decide

/-! ### Witnesses: a concrete state and operands that meet the hypotheses of each statement -/

/-- A run's first state is ready for the first entry of its trace. -/
theorem start_ready (p : Params) (e : Entry) (es : List Entry) : (State.start p (e :: es)).Ready e := ⟨rfl, rfl⟩

/-- An entry with given facts. -/
def ent (f : Facts) : Entry := ⟨.instr (.name "NOP") f, {}⟩

/-- Parameters that supply a cost of one member for ADDF2 and of more members for MULL2. -/
def supplied : Params := ⟨true, [⟨.addf2, { c := 4 }, { c := 4 }⟩, ⟨.mull2, { c := 5 }, { c := 9 }⟩]⟩

/-- Parameters that supply an interval with its ends out of order. -/
def crossed : Params := ⟨false, [⟨.addf2, { c := 2 }, { c := 1 }⟩]⟩

theorem test_witness_HwInterruptCost : (State.start {} [⟨.hwInterrupt, {}⟩]).Ready ⟨.hwInterrupt, {}⟩ := start_ready _ _ _
theorem test_witness_SwInterruptCost : (State.start {} [⟨.swInterrupt, {}⟩]).Ready ⟨.swInterrupt, {}⟩ := start_ready _ _ _
theorem test_witness_ExceptionCost :
    (State.start {} [⟨.exception, { c := 28, r := 2, w := 2 }⟩]).Ready ⟨.exception, { c := 28, r := 2, w := 2 }⟩ ∧
    Cost.InDraw { c := 28, r := 2, w := 2 } { c := 50, r := 2, w := 8 } { c := 28, r := 2, w := 2 } ∧
    Cost.InDraw { c := 28, r := 2, w := 2 } { c := 50, r := 2, w := 8 } { c := 50, r := 2, w := 8 } :=
  ⟨start_ready _ _ _, by decide, by decide⟩

theorem test_witness_BptXfcCostAnException : (State.start {} [ent {}]).Ready (ent {}) ∧ Instr.bpt ∈ allRows :=
  ⟨start_ready _ _ _, by decide⟩
theorem test_witness_OneCycleIntegerCost : (State.start {} [ent {}]).Ready (ent {}) ∧ Instr.addb2 ∈ allRows :=
  ⟨start_ready _ _ _, by decide⟩
theorem test_witness_FixedIntegerCost : (State.start {} [ent {}]).Ready (ent {}) ∧ Instr.clrq ∈ allRows :=
  ⟨start_ready _ _ _, by decide⟩
theorem test_witness_RangeIntegerCost : (State.start {} [ent {}]).Ready (ent {}) ∧ Instr.ashl ∈ allRows :=
  ⟨start_ready _ _ _, by decide⟩
theorem test_witness_AddressMoveCost : (State.start {} [ent {}]).Ready (ent {}) ∧ Instr.movab ∈ allRows :=
  ⟨start_ready _ _ _, by decide⟩
theorem test_witness_UnconditionalControlCost : (State.start {} [ent {}]).Ready (ent {}) ∧ Instr.caseb ∈ allRows :=
  ⟨start_ready _ _ _, by decide⟩
theorem test_witness_QueueCost : (State.start {} [ent {}]).Ready (ent {}) ∧ Instr.insqhi ∈ allRows :=
  ⟨start_ready _ _ _, by decide⟩
theorem test_witness_EmulatedCost : (State.start {} [ent {}]).Ready (ent {}) ∧ Instr.addp4 ∈ allRows :=
  ⟨start_ready _ _ _, by decide⟩
theorem test_witness_OperatingSystemCost : (State.start {} [ent {}]).Ready (ent {}) ∧ Instr.chme ∈ allRows :=
  ⟨start_ready _ _ _, by decide⟩
theorem test_witness_AdawiCost :
    ((State.start {} [ent { sumInReg := true }]).Ready (ent { sumInReg := true }) ∧ (ent { sumInReg := true }).facts.sumInReg = true) ∧
    ((State.start {} [ent {}]).Ready (ent {}) ∧ (ent {}).facts.sumInReg = false) :=
  ⟨⟨start_ready _ _ _, rfl⟩, ⟨start_ready _ _ _, rfl⟩⟩
theorem test_witness_FieldCost :
    ((State.start {} [ent { vInReg := true }]).Ready (ent { vInReg := true }) ∧ (ent { vInReg := true }).facts.vInReg = true) ∧
    ((State.start {} [ent {}]).Ready (ent {}) ∧ (ent {}).facts.vInReg = false) :=
  ⟨⟨start_ready _ _ _, rfl⟩, ⟨start_ready _ _ _, rfl⟩⟩
theorem test_witness_ConditionalBranchCost :
    ((State.start {} [ent { mispredicted := true }]).Ready (ent { mispredicted := true }) ∧ (ent { mispredicted := true }).facts.mispredicted = true) ∧
    ((State.start {} [ent {}]).Ready (ent {}) ∧ (ent {}).facts.mispredicted = false) :=
  ⟨⟨start_ready _ _ _, rfl⟩, ⟨start_ready _ _ _, rfl⟩⟩
theorem test_witness_BitBranchCost :
    ((State.start {} [ent { vInReg := true, mispredicted := true }]).Ready (ent { vInReg := true, mispredicted := true }) ∧ (ent { vInReg := true, mispredicted := true }).facts.vInReg = true) ∧
    ((State.start {} [ent {}]).Ready (ent {}) ∧ (ent {}).facts.vInReg = false) :=
  ⟨⟨start_ready _ _ _, rfl⟩, ⟨start_ready _ _ _, rfl⟩⟩
theorem test_witness_ProcedureCallCost :
    ((State.start {} [ent { n := 16, frameKind := .S }]).Ready (ent { n := 16, frameKind := .S }) ∧ (ent { n := 16, frameKind := .S }).facts.frameKind = .S) ∧
    ((State.start {} [ent {}]).Ready (ent {}) ∧ (ent {}).facts.frameKind = .G) :=
  ⟨⟨start_ready _ _ _, rfl⟩, ⟨start_ready _ _ _, rfl⟩⟩
theorem test_witness_MiscellaneousCost :
    ((State.start {} [ent { sizeIsOne := true }]).Ready (ent { sizeIsOne := true }) ∧ (ent { sizeIsOne := true }).facts.sizeIsOne = true) ∧
    ((State.start {} [ent {}]).Ready (ent {}) ∧ (ent {}).facts.sizeIsOne = false) :=
  ⟨⟨start_ready _ _ _, rfl⟩, ⟨start_ready _ _ _, rfl⟩⟩
theorem test_witness_RegisterMaskCost :
    ((State.start {} [ent { n := 16 }]).Ready (ent { n := 16 }) ∧ (ent { n := 16 }).facts.n = 16) ∧
    ((State.start {} [ent {}]).Ready (ent {}) ∧ (ent {}).facts.n = 0) :=
  ⟨⟨start_ready _ _ _, rfl⟩, ⟨start_ready _ _ _, rfl⟩⟩
theorem test_witness_CharacterStringCost :
    ((State.start {} [ent { n := 8, k := 4 }]).Ready (ent { n := 8, k := 4 }) ∧ (ent { n := 8, k := 4 }).facts.n = 8) ∧
    ((State.start {} [ent {}]).Ready (ent {}) ∧ (ent {}).facts.k = 0) :=
  ⟨⟨start_ready _ _ _, rfl⟩, ⟨start_ready _ _ _, rfl⟩⟩
theorem test_witness_EdivCost :
    (State.start {} [ent {}]).Ready (ent {}) ∧ Instr.mull2 ∈ Family.rows .integer ∧ Instr.mull2 ≠ .ediv ∧
      isTbd {} .mull2 = false :=
  ⟨start_ready _ _ _, by decide⟩
theorem test_witness_LongMultiplyCost :
    (State.start {} [ent {}]).Ready (ent {}) ∧ (State.start supplied [ent {}]).Ready (ent {}) ∧
      ({} : Params).hasFpa = false ∧ supplied.hasFpa = true ∧
      tbdCostOf supplied .mull2 = some ({ c := 5 }, { c := 9 }) ∧ Cost.le { c := 5 } { c := 9 } ∧
      tbdCostOf supplied .mull3 = none :=
  ⟨start_ready _ _ _, start_ready _ _ _, by decide⟩
theorem test_witness_FloatingCost :
    (State.start supplied [ent {}]).Ready (ent {}) ∧ Instr.addf2 ∈ Family.rows .floating ∧
      tbdCostOf supplied .addf2 = some ({ c := 4 }, { c := 4 }) ∧ Cost.le { c := 4 } { c := 4 } ∧
      tbdCostOf supplied .tstg = none :=
  ⟨start_ready _ _ _, by decide⟩
theorem test_witness_EveryInstructionSteps :
    (State.start supplied [ent {}]).Ready (ent {}) ∧ SuppliedInOrder supplied ∧
      (∃ t, exec .nop (one {} {} {}) = .next t) ∧ (∃ t, exec .addf2 (one {} {} {}) = .next t) ∧
      isTbd {} .addf2 = true ∧ tbdCostOf {} .addf2 = none :=
  ⟨start_ready _ _ _, by unfold SuppliedInOrder; decide, ⟨_, rfl⟩, ⟨_, rfl⟩, by decide⟩
theorem test_witness_FactsReadByRow :
    (∀ name ∈ factsOf .bbs, name.agree ⟨true, []⟩ ⟨false, []⟩ { vInReg := true, n := 1 } { vInReg := true, n := 2 }) ∧
      adders { vInReg := true, n := 1 } = adders { vInReg := true, n := 2 } ∧ FactName.vInReg ∈ factsOf .bbs := by
  refine ⟨?_, by decide, by decide⟩
  intro name h
  cases name <;> first | rfl | exact absurd h (by decide)
theorem test_witness_symbolicDelays :
    (State.start {} [ent { mispredicted := true }]).Ready (ent { mispredicted := true }) ∧
      isTbd {} .ediv = false ∧ isTbd {} .caseb = false ∧ isTbd {} .bbs = false ∧ isTbd {} .mull2 = false :=
  ⟨start_ready _ _ _, by decide⟩
theorem test_witness_AddersFormula :
    rowNumber (addrRow (.plain (.registerDef 1#4))) ∉ [6, 11, 12, 16] ∧
      rowNumber (addrRow (.plain (.register 1#4))) ∉ [6, 11, 12, 16] ∧
      rowNumber (addrRow (.indexed 1#4 (.dispDef32 1#4 0#32))) ∉ [6, 11, 12, 16] := by
  decide
theorem test_witness_AddersOnEveryRow :
    ruleOf .movl {} { unalignedReads := [.l] } = .draw { c := 1 } { c := 1 } { r := 1 } ∧
      ruleOf .bpt {} { unalignedReads := [.l] } = .draw { c := 28, r := 2, w := 2 } { c := 50, r := 2, w := 8 } {} := by
  decide
theorem test_witness_IntervalsInOrder :
    SuppliedInOrder supplied ∧ ruleOf .addf2 supplied {} = .draw { c := 4 } { c := 4 } {} ∧
      ruleOf .ashl supplied {} = .draw { c := 3 } { c := 4 } {} ∧ isTbd supplied .ashl = false := by
  unfold SuppliedInOrder; decide
theorem test_witness_StepRunsDecodedInstruction :
    (State.start {} [⟨.instr (.code [0x01#8]) {}, {}⟩]).Ready ⟨.instr (.code [0x01#8]) {}, {}⟩ ∧
      decode [0x01#8] = .ok (⟨.nop, []⟩, []) ∧ CodedInstr.wf ⟨.nop, []⟩ = true ∧
      (State.start {} [⟨.instr (.name "NOP") {}, {}⟩]).Ready ⟨.instr (.name "NOP") {}, {}⟩ ∧ rowOf "NOP" = some .nop :=
  ⟨start_ready _ _ _, rfl, rfl, start_ready _ _ _, by decide⟩
theorem test_witness_StepIsCharge :
    (State.start {} [⟨.exception, {}⟩]).Ready ⟨.exception, {}⟩ ∧
      (State.start {} [⟨.instr (.code []) {}, {}⟩]).Ready ⟨.instr (.code []) {}, {}⟩ ∧
      eventCharge {} (.instr (.code []) {}) = none ∧ (eventCharge {} .exception).isSome = true :=
  ⟨start_ready _ _ _, start_ready _ _ _, by decide⟩
theorem test_witness_FetchedWordRuns :
    decodeTableWord 8 0x01 = some .nop ∧ decodeTableWord 16 0x99FD = some .cvtfg ∧ decodeTableWord 8 0x8F = some .caseb := by
  decide
theorem test_witness_CostIndependentOfOperands :
    decode [0xC0#8, 0x51#8, 0x52#8] = .ok (⟨.addl2, regs 2⟩, []) ∧
      decode [0xC0#8, 0x61#8, 0x62#8, 0x00#8] =
        .ok (⟨.addl2, [.spec (.plain (.registerDef 1#4)), .spec (.plain (.registerDef 2#4))]⟩, [0x00#8]) ∧
      rowOf "ADDL2" = some .addl2 := by
  decide
theorem test_witness_NoRowIsRefused :
    (State.start {} [⟨.instr (.name "ADDH2") {}, {}⟩]).Ready ⟨.instr (.name "ADDH2") {}, {}⟩ ∧ rowOf "ADDH2" = none ∧
      (State.start {} [⟨.instr (.code [0x4F#8]) {}, {}⟩]).Ready ⟨.instr (.code [0x4F#8]) {}, {}⟩ ∧
      (State.start {} [⟨.instr (.code [0xFF#8, 0xFF#8]) {}, {}⟩]).Ready ⟨.instr (.code [0xFF#8, 0xFF#8]) {}, {}⟩ ∧
      (State.start {} [⟨.instr (.code [0xFD#8, 0x00#8]) {}, {}⟩]).Ready ⟨.instr (.code [0xFD#8, 0x00#8]) {}, {}⟩ ∧
      op2Table 0x00#8 = none ∧ op2Table 0xFF#8 = none :=
  ⟨start_ready _ _ _, by decide, start_ready _ _ _, start_ready _ _ _, start_ready _ _ _, by decide⟩
theorem test_witness_RefusedRunHasNoStep :
    (State.reset.refuse (.tbd .addf2)).refused = some (.tbd .addf2) ∧
      Sys2Proof.core.run 0 (State.reset.refuse (.tbd .addf2)) = .next (State.reset.refuse (.tbd .addf2)) :=
  ⟨rfl, rfl⟩
theorem test_witness_EndedRunHasNoStep :
    (State.reset.refused = none ∧ State.reset.trace.length = State.reset.pos ∧ State.reset.ended = true ∧
      (one {} {} {}).ended = false) ∧
      (State.start {} [⟨.exception, {}⟩]).Ready ⟨.exception, {}⟩ ∧
      (State.start {} [⟨.instr (.code []) {}, {}⟩]).Ready ⟨.instr (.code []) {}, {}⟩ ∧
      (State.start crossed [⟨.instr (.name "ADDF2") {}, {}⟩]).Ready ⟨.instr (.name "ADDF2") {}, {}⟩ ∧
      step (State.start crossed [⟨.instr (.name "ADDF2") {}, {}⟩]) = .fault (.emptyDraw { c := 2 } { c := 1 }) :=
  ⟨by decide, start_ready _ _ _, start_ready _ _ _, start_ready _ _ _, rfl⟩
theorem test_witness_TbdRefusals :
    (State.start ⟨true, []⟩ [ent {}]).Ready (ent {}) ∧ (⟨true, []⟩ : Params).tbdCost = [] := ⟨start_ready _ _ _, rfl⟩
theorem test_witness_DecodeReadsEncode :
    CodedInstr.wf ⟨.movl, [.spec (.plain (.immediate (.long 0xFFFFFFFF#32))), .spec (.indexed 15#4 (.autoinc 14#4))]⟩ = true ∧
      CodedInstr.wf ⟨.acbb, regs 3 ++ [.displ16 0x8000#16]⟩ = true ∧
      CodedInstr.wf ⟨.casew, regs 2 ++ [.spec (.plain (.literal 0#6)), .displList [0xFFFF#16]]⟩ 7#32 = true := by
  decide
/-- A CASEB with R1, R2 before a well-formed limit is well formed exactly when its list has the length that the limit gives. -/
theorem wf_caseb_list {lim : Specifier} (ds : List (BitVec 16)) (limit : BitVec 32) (h : lim.wf .b = true) :
    CodedInstr.wf ⟨.caseb, regs 2 ++ [.spec lim, .displList ds]⟩ limit =
      (ds.length == (constantOf lim).getD (limit.toNat % 256) + 1) := by
  have hr : operandsFit limit 0 (Instr.operandDecls .caseb) (regs 2 ++ [.spec lim, .displList ds]) =
      (true && (true && ((true && lim.wf .b) && ((true && ds.length == (constantOf lim).getD (limit.toNat % 256) + 1) && true)))) := rfl
  simpa [h, CodedInstr.wf] using hr
/-- The shortest and the longest list of CASEB, by a constant limit and by a limit in a register. -/
theorem test_witness_CaseDecodeReadsEncode :
    CodedInstr.wf ⟨.caseb, regs 3 ++ [.displList [1#16]]⟩ 0x100#32 = true ∧
      CodedInstr.wf ⟨.caseb, regs 2 ++ [.spec (.plain (.register 3#4)), .displList (List.replicate 256 1#16)]⟩ 0xFF#32 = true ∧
      CodedInstr.wf ⟨.caseb, regs 2 ++ [.spec (.plain (.immediate (.byte 0xFF#8))), .displList (List.replicate 256 1#16)]⟩ = true ∧
      CodedInstr.wf ⟨.casel, regs 2 ++ [.spec (.plain (.immediate (.long 1#32))), .displList [1#16, 0xFFFF#16]]⟩ = true :=
  ⟨by decide, by rw [wf_caseb_list _ _ (by decide), List.length_replicate]; rfl,
    by rw [wf_caseb_list _ _ (by decide), List.length_replicate]; rfl, by decide⟩
theorem test_witness_EncodeWritesDecoded :
    decode [0x15#8, 0x80#8, 0x01#8] = .ok (⟨.bleq, [.displ8 0x80#8]⟩, [0x01#8]) := by decide
theorem test_witness_OpcodeMap : Instr.opcode .addg2 = .fd 0x40#8 ∧ op1Table 0xFD#8 = none := by decide
theorem test_witness_NamesOfRows : rowOf "CLRF" = some .clrl ∧ rowOf "MNEGF" = some .mnegf := by decide
theorem test_witness_ChmStackIsTheMinimum :
    (Instr.chmu, Mode.user) ∈ ([(.chmk, .kernel), (.chme, .executive), (.chms, .supervisor), (.chmu, .user)] : List (Instr × Mode)) ∧
      (State.start {} [ent {}]).Ready (ent {}) ∧ chmStack .chmk .user = some .kernel ∧ chmStack .chmu .user = some .user ∧
      chmStack .chme .supervisor = some .executive :=
  ⟨by decide, start_ready _ _ _, by decide⟩
theorem test_witness_EvalAdditiveMonotone : Cost.le { c := 1, mpr := 1 } { c := 1, w := 2, mpr := 1 } := by decide
theorem test_witness_WorkedExamples :
    (Event.exception, 38, 78) ∈ [(Event.hwInterrupt, 34, 34), (.swInterrupt, 31, 31), (.exception, 38, 78)] := by decide

theorem test_witness_StepFrame :
    step (State.start {} [⟨.instr (.code [0x01#8]) {}, {}⟩]) =
      .next ((State.start {} [⟨.instr (.code [0x01#8]) {}, {}⟩]).charge { c := 1 }) ∧
    step (State.start {} [⟨.instr (.code [0x40#8, 0x50#8, 0x51#8]) {}, {}⟩]) =
      .next ((State.start {} [⟨.instr (.code [0x40#8, 0x50#8, 0x51#8]) {}, {}⟩]).refuse (.tbd .addf2)) :=
  ⟨rfl, rfl⟩
theorem test_witness_BoundedKept :
    (State.start {} [⟨.exception, {}⟩]).Bounded ∧
      step (State.start {} [⟨.exception, {}⟩]) =
        .next ((State.start {} [⟨.exception, {}⟩]).charge { c := 28, r := 2, w := 2 }) :=
  ⟨⟨by decide, by decide, by decide⟩, rfl⟩
theorem test_witness_RunBounds :
    Sys2Proof.core.run 1 (State.start {} [⟨.exception, {}⟩]) =
        .next ((State.start {} [⟨.exception, {}⟩]).charge { c := 28, r := 2, w := 2 }) ∧
      ((State.start {} [⟨.exception, {}⟩]).charge { c := 28, r := 2, w := 2 }).refused = none ∧
      (∀ e ∈ [(⟨.exception, {}⟩ : Entry)], Chargeable {} e) := by
  refine ⟨rfl, rfl, fun e he => ?_⟩
  rw [List.mem_singleton] at he
  subst he
  exact ⟨_, _, _, rfl, by decide⟩
theorem test_witness_ConcatenatedRuns :
    (∃ a, Sys2Proof.core.run 1 (State.start {} [⟨.exception, {}⟩]) = .next a ∧ a.refused = none) ∧
      ∃ b, Sys2Proof.core.run 1 (State.start {} [⟨.hwInterrupt, {}⟩]) = .next b ∧ b.refused = none :=
  ⟨⟨_, rfl, rfl⟩, ⟨_, rfl, rfl⟩⟩

end Sys2Proof.Tests
end

section
/-! SUPPORT. The arithmetic of costs: evaluation in cycles (R10), and a component of a draw's member (R11). -/

namespace Sys2Proof

/-- Evaluation of a sum of costs is the sum of their evaluations (R10). -/
theorem Cost.eval_add (d : Delays) (a b : Cost) : (a.add b).eval d = a.eval d + b.eval d := by
  simp only [Cost.eval, Cost.add, Nat.add_mul]
  omega

/-- Evaluation is monotone in each of the six components (R10). -/
theorem Cost.eval_le_eval (d : Delays) {a b : Cost} (h : a.le b) : a.eval d ≤ b.eval d := by
  obtain ⟨hc, hr, hw, hrst, hpfl, hmpr⟩ := h
  unfold Cost.eval
  gcongr

/-- Flushes that the two ends of a draw share are charged whatever is picked. -/
theorem Cost.clamp_pfl_of_eq {lo hi : Cost} {k : Nat} (hlo : lo.pfl = k) (hhi : hi.pfl = k) (pick : Cost) :
    (Cost.clamp lo hi pick).pfl = k := by
  simp only [Cost.clamp, hlo, hhi]
  omega

end Sys2Proof
end

section
/-! SUPPORT. Every row's cost rule is what its cells in the table say (R98). What is said of all rows at once is then a check of
the table's data, one row after the other, and an argument about a single cell. -/

namespace Sys2Proof.Machine

open Sys2Proof

/-- The rule of a row and the table's cells, two transcriptions of one cost, charge the same. A row with one cell needs only the
arithmetic of its linear form; the others are split on the fact that chooses the cell. -/
theorem tableCharge_eq_ruleOf (i : Instr) (p : Params) (f : Facts) : tableCharge i p f = some (ruleOf i p f) := by
  obtain ⟨sumInReg, vInReg, mispredicted, n, k, frameKind, sizeIsOne, reads, writes⟩ := f
  obtain ⟨hasFpa, tbdCost⟩ := p
  cases i
  case' adawi => cases sumInReg
  case' mull2 | mull3 => cases hasFpa
  case' cmpv | cmpzv | extv | extzv | insv | ffc | ffs => cases vInReg
  case' bbc | bbs | bbcc | bbcs | bbsc | bbss | bbcci | bbssi => cases vInReg
  case' ret => cases frameKind
  case' index => cases sizeIsOne
  all_goals
    simp [tableCharge, cellsOf, When.holds, fixedCell, rangeCell, tbdOnlyCell, exceptionCell, chargeOfCell, LinCost.at]
    rfl

/-- At every event some cell of a row holds, and the row's rule is what the first such cell says. -/
theorem ruleOf_eq_chargeOfCell (i : Instr) (p : Params) (f : Facts) :
    ∃ cell, (cellsOf i).find? (fun cell => cell.when.holds p f) = some cell ∧ ruleOf i p f = chargeOfCell i p f cell := by
  obtain ⟨cell, hfind, hcharge⟩ := Option.map_eq_some_iff.mp (tableCharge_eq_ruleOf i p f)
  exact ⟨cell, hfind, hcharge.symm⟩

/-! ### Cells whose kind is `tbd` -/

/-- In the table, a cell is `tbd` on the floating rows, and on MULL2 and MULL3 under the condition of an FPA (R450, R202). -/
theorem tbdCell_rows (i : Instr) : ∀ cell ∈ cellsOf i, cell.kind = .tbd →
    i.family = .floating ∨ ((i = .mull2 ∨ i = .mull3) ∧ cell.when = .hasFpa true) := by
  cases i <;> decide

/-- A `tbd` cell whose condition holds makes its row `tbd`. -/
theorem isTbd_of_tbd_cell {i : Instr} {p : Params} {f : Facts} {cell : Cell} (hmem : cell ∈ cellsOf i)
    (hkind : cell.kind = .tbd) (hholds : cell.when.holds p f = true) : isTbd p i = true := by
  rcases tbdCell_rows i cell hmem hkind with hfam | ⟨hrow, hwhen⟩
  · simp [isTbd, hfam]
  · have hfpa : p.hasFpa = true := by simpa [hwhen, When.holds] using hholds
    simp [isTbd, hrow, hfpa]

/-- What the rule of a row that is not `tbd` charges: a draw between the ends of its cell, or an exception's cost (R603). -/
theorem ruleOf_of_not_isTbd {i : Instr} {p : Params} (h : isTbd p i = false) (f : Facts) :
    ∃ cell ∈ cellsOf i, (cellsOf i).find? (fun cell => cell.when.holds p f) = some cell ∧
      (((cell.kind = .fixed ∨ cell.kind = .range) ∧ ruleOf i p f = .draw (cell.lo.at f) (cell.hi.at f) (adders f)) ∨
       (cell.kind = .exception ∧ ruleOf i p f = exceptionRule p f)) := by
  obtain ⟨cell, hfind, hrule⟩ := ruleOf_eq_chargeOfCell i p f
  have hmem := List.mem_of_find?_eq_some hfind
  refine ⟨cell, hmem, hfind, ?_⟩
  cases hkind : cell.kind with
  | fixed => exact .inl ⟨.inl rfl, by rw [hrule, chargeOfCell, hkind]⟩
  | range => exact .inl ⟨.inr rfl, by rw [hrule, chargeOfCell, hkind]⟩
  | exception => exact .inr ⟨rfl, by rw [hrule, chargeOfCell, hkind]⟩
  | tbd =>
    have htbd := isTbd_of_tbd_cell hmem hkind (List.find?_some (p := fun cell : Cell => cell.when.holds p f) hfind)
    rw [h] at htbd
    cases htbd

/-! ### The ends of a cell -/

/-- The two linear forms of a cell are equal if it is fixed and, if it is a range, in order in every coefficient with the
constant of `c` strictly below. -/
def Cell.EndsInOrder (cell : Cell) : Prop :=
  if cell.kind = .range then
    (cell.lo.c < cell.hi.c ∧ cell.lo.r ≤ cell.hi.r ∧ cell.lo.w ≤ cell.hi.w) ∧
      (cell.lo.cn ≤ cell.hi.cn ∧ cell.lo.rn ≤ cell.hi.rn ∧ cell.lo.wn ≤ cell.hi.wn) ∧
      (cell.lo.ck ≤ cell.hi.ck ∧ cell.lo.rk ≤ cell.hi.rk ∧ cell.lo.wk ≤ cell.hi.wk) ∧
      cell.lo.rst ≤ cell.hi.rst ∧ cell.lo.pfl ≤ cell.hi.pfl ∧ cell.lo.mpr ≤ cell.hi.mpr
  else cell.lo = cell.hi

/-- The ends of every cell of the table are in order. -/
theorem cellsOf_endsInOrder (i : Instr) : ∀ cell ∈ cellsOf i, cell.EndsInOrder := by
  unfold Cell.EndsInOrder
  cases i <;> decide

/-- The costs between which a range cell draws are in order and differ, at all facts. -/
theorem Cell.EndsInOrder.range_at {cell : Cell} (h : cell.EndsInOrder) (hkind : cell.kind = .range) (f : Facts) :
    (cell.lo.at f).le (cell.hi.at f) ∧ (cell.lo.at f).c < (cell.hi.at f).c := by
  unfold Cell.EndsInOrder at h
  rw [if_pos hkind] at h
  obtain ⟨⟨hc, hr, hw⟩, ⟨hcn, hrn, hwn⟩, ⟨hck, hrk, hwk⟩, hrst, hpfl, hmpr⟩ := h
  have hlt : (cell.lo.at f).c < (cell.hi.at f).c := by
    exact Nat.add_lt_add_of_lt_of_le (Nat.add_lt_add_of_lt_of_le hc (Nat.mul_le_mul_right _ hcn)) (Nat.mul_le_mul_right _ hck)
  refine ⟨⟨hlt.le, ?_, ?_, hrst, hpfl, ?_⟩, hlt⟩
  · simp only [LinCost.at]
    gcongr
  · simp only [LinCost.at]
    gcongr
  · simp only [LinCost.at]
    split
    · exact hmpr
    · exact Nat.le_refl _

/-- The costs of a cell that is no range are one cost. -/
theorem Cell.EndsInOrder.at_eq {cell : Cell} (h : cell.EndsInOrder) (hkind : cell.kind ≠ .range) (f : Facts) :
    cell.lo.at f = cell.hi.at f := by
  unfold Cell.EndsInOrder at h
  rw [if_neg hkind] at h
  rw [h]

/-- The ends of every cell are in order at all facts. -/
theorem Cell.EndsInOrder.at_le {cell : Cell} (h : cell.EndsInOrder) (f : Facts) : (cell.lo.at f).le (cell.hi.at f) := by
  by_cases hkind : cell.kind = .range
  · exact (h.range_at hkind f).1
  · rw [h.at_eq hkind]
    exact Cost.le_refl _

/-- The ends of a cell are the same cost exactly when it is no range. -/
theorem Cell.EndsInOrder.at_eq_iff {cell : Cell} (h : cell.EndsInOrder) (f : Facts) :
    cell.lo.at f = cell.hi.at f ↔ cell.kind ≠ .range := by
  refine ⟨fun heq hkind => ?_, fun hkind => h.at_eq hkind f⟩
  have hlt := (h.range_at hkind f).2
  rw [heq] at hlt
  exact Nat.lt_irrefl _ hlt

/-- The interval a `tbd` cell draws from is one that was supplied (R450). -/
theorem tbdCell_draw {m : Instr} {p : Params} {f : Facts} {lo hi extra : Cost} (h : tbdCell m p f = .draw lo hi extra) :
    ∃ e ∈ p.tbdCost, e.lo = lo ∧ e.hi = hi := by
  unfold tbdCell at h
  cases hsup : tbdCostOf p m with
  | none =>
    rw [hsup] at h
    cases h
  | some ends =>
    rw [hsup] at h
    obtain ⟨e, hfind, rfl⟩ := Option.map_eq_some_iff.mp hsup
    cases h
    exact ⟨e, List.mem_of_find?_eq_some hfind, rfl, rfl⟩

/-- The interval of every row is in order, the supplied ones by assumption (R11). -/
theorem ruleOf_draw_le {i : Instr} {p : Params} {f : Facts} {lo hi extra : Cost} (hsup : SuppliedInOrder p)
    (h : ruleOf i p f = .draw lo hi extra) : lo.le hi := by
  obtain ⟨cell, hfind, hrule⟩ := ruleOf_eq_chargeOfCell i p f
  have hends := cellsOf_endsInOrder i cell (List.mem_of_find?_eq_some hfind)
  rw [hrule, chargeOfCell] at h
  cases hkind : cell.kind with
  | fixed | range =>
    rw [hkind] at h
    cases h
    exact hends.at_le f
  | exception =>
    rw [hkind] at h
    cases h
    decide
  | tbd =>
    rw [hkind] at h
    obtain ⟨e, hmem, rfl, rfl⟩ := tbdCell_draw h
    exact hsup e hmem

/-- A row that is not `tbd` draws from one cost exactly when the cell that holds is fixed (R11). -/
theorem ruleOf_draw_eq_iff {i : Instr} {p : Params} {f : Facts} {lo hi extra : Cost} (hp : isTbd p i = false)
    (h : ruleOf i p f = .draw lo hi extra) :
    lo = hi ↔ ∃ cell, (cellsOf i).find? (fun cell => cell.when.holds p f) = some cell ∧ cell.kind = .fixed := by
  obtain ⟨cell, hmem, hfind, hcase⟩ := ruleOf_of_not_isTbd hp f
  simp only [hfind, Option.some.injEq, exists_eq_left']
  rcases hcase with ⟨hkind, hrule⟩ | ⟨hkind, hrule⟩
  · rw [hrule] at h
    cases h
    rw [(cellsOf_endsInOrder i cell hmem).at_eq_iff f]
    rcases hkind with hkind | hkind <;> simp [hkind]
  · rw [hrule] at h
    cases h
    simp [hkind]

/-- A row that is not `tbd` charges a member of the interval of its rule. -/
theorem exec_of_not_isTbd {s : State} {e : Entry} {i : Instr} (hs : s.Ready e) (hp : isTbd s.params i = false) :
    ∃ lo hi extra, ruleOf i s.params e.facts = .draw lo hi extra ∧ lo.le hi ∧
      exec i s = .next (s.charge ((Cost.clamp lo hi e.pick).add extra)) := by
  obtain ⟨cell, hmem, -, ⟨-, hrule⟩ | ⟨-, hrule⟩⟩ := ruleOf_of_not_isTbd hp e.facts
  · have hle := (cellsOf_endsInOrder i cell hmem).at_le e.facts
    exact ⟨_, _, _, hrule, hle, by rw [exec_ready hs, hrule, applyCharge_draw hle]⟩
  · exact ⟨_, _, _, hrule, by decide, by rw [exec_ready hs, hrule, exceptionRule, applyCharge_draw (by decide)]⟩

/-! ### Pipeline flushes -/

/-- In the table, the cells that are the word "exception" are those of BPT and XFC (R603). -/
theorem exceptionCell_rows (i : Instr) : ∀ cell ∈ cellsOf i, cell.kind = .exception → i = .bpt ∨ i = .xfc := by
  cases i <;> decide

/-- How many pipeline flushes a row charges: one on the CASEx rows (R322) and on the emulated rows (R521). -/
def flushCount (i : Instr) : Nat :=
  if i ∈ ([.caseb, .casel, .casew] : List Instr) ∨ i ∈ Family.rows .emulated then 1 else 0

/-- Both ends of a cell that is not `tbd` carry the flushes of its row. -/
theorem cellsOf_pfl_eq_flushCount (i : Instr) :
    ∀ cell ∈ cellsOf i, cell.kind ≠ .tbd → cell.lo.pfl = flushCount i ∧ cell.hi.pfl = flushCount i := by
  cases i <;> decide

/-- A row that is not `tbd` carries its flushes in both ends of its interval and none in the extra cost. -/
theorem ruleOf_draw_pfl {i : Instr} {p : Params} {f : Facts} {lo hi extra : Cost} (hp : isTbd p i = false)
    (h : ruleOf i p f = .draw lo hi extra) : lo.pfl = flushCount i ∧ hi.pfl = flushCount i ∧ extra.pfl = 0 := by
  obtain ⟨cell, hmem, -, ⟨hkind, hrule⟩ | ⟨hkind, hrule⟩⟩ := ruleOf_of_not_isTbd hp f
  · obtain ⟨hlo, hhi⟩ := cellsOf_pfl_eq_flushCount i cell hmem (by rcases hkind with hkind | hkind <;> simp [hkind])
    rw [hrule] at h
    cases h
    exact ⟨hlo, hhi, rfl⟩
  · rw [hrule] at h
    cases h
    rcases exceptionCell_rows i cell hmem hkind with rfl | rfl <;> decide

/-! ### The facts a row reads -/

/-- The fact or parameter that a cell's condition asks for (R711). -/
def When.facts : When → List FactName
  | .always => []
  | .sumInReg _ => [.sumInReg]
  | .vInReg _ => [.vInReg]
  | .sizeIsOne _ => [.sizeIsOne]
  | .frameKind _ => [.frameKind]
  | .hasFpa _ => [.hasFpa]

/-- The facts that a linear form depends on: those with a coefficient that is not 0. -/
def LinCost.facts (l : LinCost) : List FactName :=
  (if l.cn ≠ 0 ∨ l.rn ≠ 0 ∨ l.wn ≠ 0 then [.n] else []) ++ (if l.ck ≠ 0 ∨ l.rk ≠ 0 ∨ l.wk ≠ 0 then [.k] else []) ++
    (if l.mpr ≠ 0 then [.mispredicted] else [])

/-- The facts that a cell's costs depend on, once its condition holds. -/
def Cell.costFacts (cell : Cell) : List FactName := cell.lo.facts ++ cell.hi.facts

/-- The table lists for a row every fact that a condition or a cost of its cells depends on. -/
theorem cellsOf_facts (i : Instr) :
    ∀ cell ∈ cellsOf i, cell.when.facts ⊆ factsOf i ∧ cell.costFacts ⊆ factsOf i := by
  cases i <;> decide

section
variable {p q : Params} {f g : Facts}

/-- A condition holds or fails alike at events that agree on the fact it asks for. -/
theorem When.holds_congr {w : When} (h : ∀ name ∈ w.facts, name.agree p q f g) : w.holds p f = w.holds q g := by
  cases w with
  | always => rfl
  | sumInReg b | vInReg b | sizeIsOne b | frameKind b | hasFpa b =>
    have hagree := h _ (List.mem_singleton.mpr rfl)
    simp only [FactName.agree] at hagree
    simp only [When.holds, hagree]

/-- A term of a linear form is the same at two values that agree wherever its coefficient counts. -/
theorem mul_congr_of_ne_zero {a x y : Nat} (h : a ≠ 0 → x = y) : a * x = a * y :=
  mul_eq_mul_left_iff.mpr (or_iff_not_imp_right.mpr h)

/-- A linear form has the same cost at events that agree on the facts it depends on. -/
theorem LinCost.at_congr {l : LinCost} (h : ∀ name ∈ l.facts, name.agree p q f g) : l.at f = l.at g := by
  have hn : (l.cn ≠ 0 ∨ l.rn ≠ 0 ∨ l.wn ≠ 0) → f.n = g.n := fun hne => h .n (by simp [LinCost.facts, hne])
  have hk : (l.ck ≠ 0 ∨ l.rk ≠ 0 ∨ l.wk ≠ 0) → f.k = g.k := fun hne => h .k (by simp [LinCost.facts, hne])
  have hm : l.mpr ≠ 0 → f.mispredicted = g.mispredicted :=
    fun hne => h .mispredicted (by simp [LinCost.facts, hne])
  have hc : l.c + l.cn * f.n + l.ck * f.k = l.c + l.cn * g.n + l.ck * g.k := by
    rw [mul_congr_of_ne_zero fun ha => hn (.inl ha), mul_congr_of_ne_zero fun ha => hk (.inl ha)]
  have hr : l.r + l.rn * f.n + l.rk * f.k = l.r + l.rn * g.n + l.rk * g.k := by
    rw [mul_congr_of_ne_zero fun ha => hn (.inr (.inl ha)), mul_congr_of_ne_zero fun ha => hk (.inr (.inl ha))]
  have hw : l.w + l.wn * f.n + l.wk * f.k = l.w + l.wn * g.n + l.wk * g.k := by
    rw [mul_congr_of_ne_zero fun ha => hn (.inr (.inr ha)), mul_congr_of_ne_zero fun ha => hk (.inr (.inr ha))]
  have hmpr : (if f.mispredicted then l.mpr else 0) = if g.mispredicted then l.mpr else 0 := by
    by_cases hzero : l.mpr = 0
    · simp [hzero]
    · rw [hm hzero]
  exact Cost.eq_of_components hc hr hw rfl rfl hmpr

/-- A `tbd` cell reads the supplied intervals and the unaligned lists only. -/
theorem tbdCell_congr (m : Instr) (hadders : adders f = adders g) (htbd : p.tbdCost = q.tbdCost) :
    tbdCell m p f = tbdCell m q g := by
  simp only [tbdCell, tbdCostOf, ranged, htbd, hadders]

/-- A cell says the same of events that agree on the facts its costs depend on. -/
theorem chargeOfCell_congr (m : Instr) {cell : Cell} (h : ∀ name ∈ cell.costFacts, name.agree p q f g)
    (hadders : adders f = adders g) (htbd : p.tbdCost = q.tbdCost) : chargeOfCell m p f cell = chargeOfCell m q g cell := by
  have hlo : cell.lo.at f = cell.lo.at g := LinCost.at_congr fun name hname => h name (List.mem_append_left _ hname)
  have hhi : cell.hi.at f = cell.hi.at g := LinCost.at_congr fun name hname => h name (List.mem_append_right _ hname)
  cases hkind : cell.kind with
  | fixed | range => simp only [chargeOfCell, hkind, hlo, hhi, hadders]
  | tbd => simp only [chargeOfCell, hkind, tbdCell_congr m hadders htbd]
  | exception => simp only [chargeOfCell, hkind, exceptionRule]

/-- A row charges or refuses alike at events that agree on the facts listed for it. -/
theorem ruleOf_congr {i : Instr} (h : ∀ name ∈ factsOf i, name.agree p q f g) (hadders : adders f = adders g)
    (htbd : p.tbdCost = q.tbdCost) : ruleOf i p f = ruleOf i q g := by
  have hfind : (cellsOf i).find? (fun cell => cell.when.holds p f) = (cellsOf i).find? fun cell => cell.when.holds q g :=
    List.find?_congr fun cell hmem => When.holds_congr fun name hname => h name ((cellsOf_facts i cell hmem).1 hname)
  obtain ⟨cell, hf, hrule⟩ := ruleOf_eq_chargeOfCell i p f
  obtain ⟨cell', hg, hrule'⟩ := ruleOf_eq_chargeOfCell i q g
  have hcell : cell = cell' := Option.some.inj (by rw [← hf, hfind, hg])
  subst hcell
  have hcost := (cellsOf_facts i cell (List.mem_of_find?_eq_some hf)).2
  rw [hrule, hrule', chargeOfCell_congr i (fun name hname => h name (hcost hname)) hadders htbd]

end

/-! ### Every listed fact counts -/

/-- Parameters that differ from the default ones in the given name only. -/
def FactName.changedParams (name : FactName) : Params := if name = .hasFpa then { hasFpa := true } else {}

/-- Facts that differ from those of an event that lists none in the given name only. -/
def FactName.changedFacts : FactName → Facts
  | .sumInReg => { sumInReg := true }
  | .vInReg => { vInReg := true }
  | .mispredicted => { mispredicted := true }
  | .n => { n := 1 }
  | .k => { k := 1 }
  | .frameKind => { frameKind := .S }
  | .sizeIsOne => { sizeIsOne := true }
  | .hasFpa => {}

/-- The changed event agrees with the unchanged one on every other name. -/
theorem FactName.agree_changed {name other : FactName} (h : other ≠ name) :
    other.agree {} name.changedParams {} name.changedFacts := by
  cases name <;> cases other <;> simp [FactName.agree, changedParams, changedFacts] at h ⊢

/-- A row charges an event with one of its listed facts changed differently from an event that lists none. -/
theorem ruleOf_changed_ne (i : Instr) :
    ∀ name ∈ factsOf i, ruleOf i {} {} ≠ ruleOf i name.changedParams name.changedFacts := by
  cases i <;> decide

end Sys2Proof.Machine
end

section
/-! SUPPORT. The statements about eval, the intervals, the flushes and the facts of the rows, settled. -/

open Sys2Proof Sys2Proof.Machine

/-- Settles O52: the weighted sum is the definition; sums and the order pass through it term by term. -/
theorem evalAdditiveMonotone : Obligations.EvalAdditiveMonotone :=
  fun d a b => ⟨rfl, Cost.eval_add d a b, Cost.eval_le_eval d⟩

/-- Settles O35: the ends of a row's interval are those of the cell that holds, or those of a supplied interval. -/
theorem intervalsInOrder : Obligations.IntervalsInOrder :=
  fun _ _ _ _ _ _ hsup h => ⟨ruleOf_draw_le hsup h, fun hp => ruleOf_draw_eq_iff hp h⟩

/-- Settles O31: both ends of a row's interval carry its flushes, so that every member of the draw does. -/
theorem flushOnTwentyFourRows : Obligations.FlushOnTwentyFourRows := by
  intro s e hs i hp
  obtain ⟨lo, hi, extra, hrule, -, hexec⟩ := exec_of_not_isTbd hs hp
  obtain ⟨hlo, hhi, hextra⟩ := ruleOf_draw_pfl hp hrule
  refine ⟨_, hexec, hs.notRefused, ?_⟩
  simp only [State.charge_acc, Cost.add_pfl, Cost.clamp_pfl_of_eq hlo hhi, hextra, Nat.add_zero, flushCount]

/-- Settles O27: a row is read off its cells, which depend on the listed facts only; and each listed fact, changed alone on an
event that lists none, changes the charge. -/
theorem factsReadByRow : Obligations.FactsReadByRow :=
  fun i => ⟨fun _ _ _ _ h hadders htbd => ruleOf_congr h hadders htbd,
    fun name hname => ⟨{}, name.changedParams, {}, name.changedFacts, fun _ hne => FactName.agree_changed hne,
      by cases name <;> rfl, by cases name <;> rfl, by cases name <;> rfl, ruleOf_changed_ne i name hname⟩⟩
end

section
/-! SUPPORT. A state with no step: what every operation answers once `refused` is set (R31, R705), and that a state which is ready
for an entry has not reached the end of its trace (R703). -/

namespace Sys2Proof.Machine

open Sys2Proof

/-- The entry that a state is ready for lies in its trace (R703). -/
theorem State.Ready.pos_lt_length {s : State} {e : Entry} (h : s.Ready e) : s.pos < s.trace.length :=
  (List.getElem?_eq_some_iff.mp h.atPos).1

section
variable {s : State} {why : Reason}

/-- No entry is run at a refused state (R705). -/
theorem runEntry_of_refused (h : s.refused = some why) (k : Entry → Host.Outcome State Fault Refusal) :
    runEntry k s = .refused (.runRefused why) := by
  simp only [runEntry, h]

/-- An instruction answers the reason of a refused state (R705). -/
theorem exec_of_refused (h : s.refused = some why) (i : Instr) : exec i s = .refused (.runRefused why) := by
  rw [exec_eq_runRule]
  exact runEntry_of_refused h _

/-- A refused state has no step (R705). -/
theorem step_of_refused (h : s.refused = some why) : step s = .refused (.runRefused why) :=
  runEntry_of_refused h _

/-- A run from a refused state that gives a state has made no step (R31). -/
theorem run_of_refused (h : s.refused = some why) {k : Nat} {t : State} (hrun : Sys2Proof.core.run k s = .next t) :
    t = s := by
  cases k with
  | zero => exact (Host.Outcome.next.inj hrun).symm
  | succ k =>
    obtain ⟨u, hstep, -⟩ := run_succ_next hrun
    rw [step_of_refused h] at hstep
    cases hstep

end

end Sys2Proof.Machine
end

section
/-! SUPPORT. The statements about the state, settled. -/

open Sys2Proof Sys2Proof.Machine

/-- Settles O54: a step that gives a next state consumes an entry of the trace, and its effect is a charge, which adds to `acc`, or a
refusal, which sets `refused` only. -/
theorem stepFrame : Obligations.StepFrame := by
  intro s t h
  obtain ⟨e, hready, ⟨lo, hi, extra, -, -, rfl⟩ | ⟨why, -, rfl⟩⟩ := step_next_effect h
  · exact ⟨hready.notRefused, hready.pos_lt_length, rfl, rfl, Cost.le_add _ _, .inl ⟨hready.notRefused, rfl⟩⟩
  · exact ⟨hready.notRefused, hready.pos_lt_length, rfl, rfl, Cost.le_refl _, .inr ⟨rfl, rfl, rfl⟩⟩

/-- Settles O41: every step and every instruction looks at `refused` before it looks at the trace. -/
theorem refusedRunHasNoStep : Obligations.RefusedRunHasNoStep :=
  fun _ _ h => ⟨step_of_refused h, exec_of_refused h, fun _ _ hrun => run_of_refused h hrun⟩
end

section
/-! SUPPORT. The adders of unaligned operands (R61, R62): which operands give an entry to the two lists, and what the entries add to the
charge of every row. -/

namespace Sys2Proof.Machine

open Sys2Proof

/-! ### The entries that operands give -/

theorem lenUnits_eq (len : Len) : lenUnits len = if len = .q then 2 else 1 := by
  cases len <;> rfl

/-- Short literals, registers and immediate constants, with an index or without one, are what does not lie in memory. -/
theorem inMemory_iff (sp : Specifier) : inMemory sp = true ↔
    (addrRow sp).kind ≠ .register ∧ (addrRow sp).kind ≠ .shortLiteral ∧ (addrRow sp).kind ≠ .immediate := by
  unfold inMemory
  cases (addrRow sp).kind <;> simp

/-- The rows of immediate constants in R85 are 6 and 16. -/
theorem rowNumber_of_immediate {a : AddrRow} (h : a.kind = .immediate) : rowNumber a = 6 ∨ rowNumber a = 16 := by
  obtain ⟨kind, indexed⟩ := a
  subst h
  cases indexed
  · exact .inl rfl
  · exact .inr rfl

/-- Away from the rows of immediate constants, registers and short literals are what does not lie in memory (R62). -/
theorem inMemory_iff_of_rowNumber {sp : Specifier} (h6 : rowNumber (addrRow sp) ≠ 6) (h16 : rowNumber (addrRow sp) ≠ 16) :
    inMemory sp = true ↔ (addrRow sp).kind ≠ .register ∧ (addrRow sp).kind ≠ .shortLiteral := by
  have himm : (addrRow sp).kind ≠ .immediate := fun h => (rowNumber_of_immediate h).elim h6 h16
  rw [inMemory_iff]
  simp only [himm, ne_eq, not_false_eq_true, and_true]

section
variable {u : Nat → Len → Bool}

/-- An operand gives an entry when its type has a length and it lies in memory, unaligned. -/
theorem unalignedEntry_eq_some_iff {o : PlacedOperand} {len : Len} : unalignedEntry u o = some len ↔
    lenOf o.decl.dtype = some len ∧ inMemory o.spec = true ∧ u o.addr len = true := by
  unfold unalignedEntry
  cases hlen : lenOf o.decl.dtype with
  | none => simp
  | some found =>
    simp only [Option.ite_none_right_eq_some, Option.some.injEq, Bool.and_eq_true]
    constructor
    · rintro ⟨h, rfl⟩
      exact ⟨rfl, h⟩
    · rintro ⟨rfl, h⟩
      exact ⟨h, rfl⟩

/-- The same entry in the words of R62, for the rows whose reading R62 gives. -/
theorem unalignedEntry_eq_some_iff_of_rowNumber {o : PlacedOperand} {len : Len}
    (hrow : rowNumber (addrRow o.spec) ∉ [6, 11, 12, 16]) : unalignedEntry u o = some len ↔
      lenOf o.decl.dtype = some len ∧ (addrRow o.spec).kind ≠ .register ∧ (addrRow o.spec).kind ≠ .shortLiteral ∧
        u o.addr len = true := by
  have h6 : rowNumber (addrRow o.spec) ≠ 6 := fun h => hrow (by simp [h])
  have h16 : rowNumber (addrRow o.spec) ≠ 16 := fun h => hrow (by simp [h])
  rw [unalignedEntry_eq_some_iff, inMemory_iff_of_rowNumber h6 h16, and_assoc]

theorem mem_unalignedReads_singleton {o : PlacedOperand} {len : Len} : len ∈ unalignedReads u [o] ↔
    (o.decl.access = .r ∨ o.decl.access = .m) ∧ unalignedEntry u o = some len := by
  simp [unalignedReads]

theorem mem_unalignedWrites_singleton {o : PlacedOperand} {len : Len} : len ∈ unalignedWrites u [o] ↔
    (o.decl.access = .w ∨ o.decl.access = .m) ∧ unalignedEntry u o = some len := by
  simp [unalignedWrites]

theorem unalignedReads_append (os os' : List PlacedOperand) :
    unalignedReads u (os ++ os') = unalignedReads u os ++ unalignedReads u os' := by
  simp only [unalignedReads, List.filter_append, List.filterMap_append]

theorem unalignedWrites_append (os os' : List PlacedOperand) :
    unalignedWrites u (os ++ os') = unalignedWrites u os ++ unalignedWrites u os' := by
  simp only [unalignedWrites, List.filter_append, List.filterMap_append]

/-- An operand gives at most one read. -/
theorem length_unalignedReads_le (os : List PlacedOperand) : (unalignedReads u os).length ≤ os.length :=
  (List.length_filterMap_le _ _).trans (List.length_filter_le _ _)

/-- An operand gives at most one write. -/
theorem length_unalignedWrites_le (os : List PlacedOperand) : (unalignedWrites u os).length ≤ os.length :=
  (List.length_filterMap_le _ _).trans (List.length_filter_le _ _)

end

/-! ### The extra cost of a row -/

/-- The cells that are the word "exception" are the only ones of BPT and XFC, and no other row has one (R603). -/
theorem cell_kind_eq_exception_iff {i : Instr} {cell : Cell} (hmem : cell ∈ cellsOf i) :
    cell.kind = .exception ↔ i = .bpt ∨ i = .xfc := by
  refine ⟨exceptionCell_rows i cell hmem, ?_⟩
  rintro (rfl | rfl) <;>
  · rw [List.mem_singleton.mp hmem]
    rfl

/-- What a supplied interval is drawn with is the adders (R450). -/
theorem tbdCell_draw_extra {m : Instr} {p : Params} {f : Facts} {lo hi extra : Cost}
    (h : tbdCell m p f = .draw lo hi extra) : extra = adders f := by
  unfold tbdCell at h
  split at h <;> cases h
  rfl

/-- A cell adds the adders to its draw unless it is the word "exception". -/
theorem chargeOfCell_draw_extra {m : Instr} {p : Params} {f : Facts} {cell : Cell} {lo hi extra : Cost}
    (h : chargeOfCell m p f cell = .draw lo hi extra) :
    extra = if cell.kind = .exception then {} else adders f := by
  cases hkind : cell.kind with
  | fixed | range | exception =>
    rw [chargeOfCell, hkind] at h
    cases h
    rfl
  | tbd =>
    rw [chargeOfCell, hkind] at h
    exact tbdCell_draw_extra h

/-- Every row but BPT and XFC adds the adders of the event's facts to its draw (R62, R603). -/
theorem ruleOf_draw_extra {i : Instr} {p : Params} {f : Facts} {lo hi extra : Cost} (h : ruleOf i p f = .draw lo hi extra) :
    extra = if i = .bpt ∨ i = .xfc then {} else adders f := by
  obtain ⟨cell, hfind, hrule⟩ := ruleOf_eq_chargeOfCell i p f
  rw [chargeOfCell_draw_extra (hrule.symm.trans h)]
  simp only [cell_kind_eq_exception_iff (List.mem_of_find?_eq_some hfind)]

/-! ### The interval of a row -/

/-- The interval that a charge draws from; a refusal has none. -/
def Charge.interval : Charge → Option (Cost × Cost)
  | .draw lo hi _ => some (lo, hi)
  | .refuse _ => none

theorem Charge.interval_eq_some_iff {ch : Charge} {lo hi : Cost} :
    ch.interval = some (lo, hi) ↔ ∃ extra, ch = .draw lo hi extra := by
  cases ch <;> simp [interval]

/-- A `tbd` cell draws from the supplied interval, whatever the facts (R450). -/
theorem tbdCell_interval (m : Instr) (p : Params) (f : Facts) : (tbdCell m p f).interval = tbdCostOf p m := by
  unfold tbdCell
  cases tbdCostOf p m <;> rfl

section
variable {p : Params} {f g : Facts}

/-- A cell's interval is the same at events that agree on the facts its costs depend on. -/
theorem chargeOfCell_interval_congr (m : Instr) {cell : Cell} (h : ∀ name ∈ cell.costFacts, name.agree p p f g) :
    (chargeOfCell m p f cell).interval = (chargeOfCell m p g cell).interval := by
  have hlo : cell.lo.at f = cell.lo.at g := LinCost.at_congr fun name hname => h name (List.mem_append_left _ hname)
  have hhi : cell.hi.at f = cell.hi.at g := LinCost.at_congr fun name hname => h name (List.mem_append_right _ hname)
  cases hkind : cell.kind with
  | fixed | range => simp only [chargeOfCell, hkind, Charge.interval, hlo, hhi]
  | tbd => simp only [chargeOfCell, hkind, tbdCell_interval]
  | exception => simp only [chargeOfCell, hkind, exceptionRule]

/-- A row's interval is the same at events whose named facts agree: the unaligned lists are not among them (R14). -/
theorem ruleOf_interval_congr (i : Instr) (h : ∀ name : FactName, name.agree p p f g) :
    (ruleOf i p f).interval = (ruleOf i p g).interval := by
  have hholds : (fun cell : Cell => cell.when.holds p f) = fun cell => cell.when.holds p g :=
    funext fun _ => When.holds_congr fun name _ => h name
  obtain ⟨cell, hf, hrule⟩ := ruleOf_eq_chargeOfCell i p f
  obtain ⟨cell', hg, hrule'⟩ := ruleOf_eq_chargeOfCell i p g
  obtain rfl : cell = cell' := Option.some.inj (by rw [← hf, hholds, hg])
  rw [hrule, hrule', chargeOfCell_interval_congr i fun name _ => h name]

end

/-- Facts that differ in the unaligned lists only agree on every named fact. -/
theorem FactName.agree_unaligned (p : Params) (f : Facts) (reads writes : List Len) (name : FactName) :
    name.agree p p f { f with unalignedReads := reads, unalignedWrites := writes } := by
  cases name <;> rfl

end Sys2Proof.Machine
end

section
/-! SUPPORT. The statements about the adders of unaligned operands, settled. -/

open Sys2Proof Sys2Proof.Machine

/-- Settles O34: what a row adds to its draw is read off the kind of its cell, and the draw itself reads the facts of the cell only. -/
theorem addersOnEveryRow : Obligations.AddersOnEveryRow := by
  intro i p f lo hi extra h
  refine ⟨ruleOf_draw_extra h, fun reads writes => Charge.interval_eq_some_iff.mp ?_⟩
  rw [← ruleOf_interval_congr i (FactName.agree_unaligned p f reads writes), h, Charge.interval]

/-- Settles O33: an operand's entry is characterised once for both lists, and the extra cost of a row is that of the statement about
every row, away from BPT and XFC. -/
theorem addersFormula : Obligations.AddersFormula := by
  refine ⟨fun f => ?formula, rfl, rfl, rfl, rfl, rfl, rfl, rfl, fun u o len hrow => ?entry, fun u o os => ?compose,
    fun i p f lo hi extra hbpt hxfc h => ?extra, rfl⟩
  case formula => simp only [adders, ← lenUnits_eq]
  case entry =>
    rw [mem_unalignedReads_singleton, mem_unalignedWrites_singleton, unalignedEntry_eq_some_iff_of_rowNumber hrow]
    exact ⟨.rfl, .rfl⟩
  case compose =>
    exact ⟨unalignedReads_append [o] os, unalignedWrites_append [o] os, length_unalignedReads_le [o],
      length_unalignedWrites_le [o]⟩
  case extra => simpa only [hbpt, hxfc, or_self, if_false] using ruleOf_draw_extra h
end

section
/-! SUPPORT. Opcodes (R93 to R95): what the decoder reads from the opcode of a row, and that a row it reads has those opcode bytes. -/

namespace Sys2Proof

/-- The opcode bytes of every row are read as that row (R95). -/
theorem decodeOpcode_encode (i : Instr) (rest : List Byte) : decodeOpcode (i.opcode.encode ++ rest) = .ok (i, rest) := by
  have hrow : Laws.OpcodeRead.Statement i := by cases i <;> exact fun _ => rfl
  exact hrow rest

/-- Two rows with one opcode are one row: the opcode's bytes are read as both. -/
theorem opcode_injective {i j : Instr} (h : i.opcode = j.opcode) : i = j := by
  have hi := decodeOpcode_encode i []
  rw [h, decodeOpcode_encode j []] at hi
  cases hi
  rfl

/-- The one-byte values that R94 lists. -/
def oneByteNoRow : List Byte :=
  [0x4F#8, 0x54#8, 0x55#8, 0x57#8, 0x59#8, 0x5A#8, 0x5B#8, 0x6F#8, 0x74#8, 0x75#8, 0x77#8, 0xFD#8, 0xFE#8, 0xFF#8]

/-- The values that R94 lists are the gaps of the one-byte map. -/
theorem op1Table_eq_none_iff : ∀ b : Byte, op1Table b = none ↔ b ∈ oneByteNoRow := by
  decide

/-- The one-byte map has every row under its own opcode. -/
theorem opcode_of_op1Table : ∀ b : Byte, ∀ i ∈ op1Table b, i.opcode = .one b := by
  decide

/-- The second-byte map has every row under its own opcode. -/
theorem opcode_of_op2Table {b : Byte} {i : Instr} (h : op2Table b = some i) : i.opcode = .fd b := by
  have hmap : ∀ e ∈ secondByteMap, e.2.opcode = .fd e.1 := by decide
  obtain ⟨e, hfind, rfl⟩ := Option.map_eq_some_iff.mp h
  have hkey := List.find?_some hfind
  rw [hmap e (List.mem_of_find?_eq_some hfind), beq_iff_eq.mp hkey]

/-- A second byte has a row when it is one of the bytes listed in the second-byte map. -/
theorem op2Table_eq_none_iff (b : Byte) : op2Table b = none ↔ b ∉ secondByteMap.map Prod.fst := by
  simp only [op2Table, Option.map_eq_none_iff, List.find?_eq_none, beq_iff_eq, List.mem_map, not_exists, not_and]

/-- The second bytes with a row are the 21 numbers of the second-byte map, in some order. -/
theorem secondBytes_perm :
    ((List.range 256).filter fun k => ¬ op2Table (BitVec.ofNat 8 k) = none).Perm
      (secondByteMap.map fun e => e.1.toNat) := by
  have hbytes : ∀ e ∈ secondByteMap, e.1.toNat < 256 := fun e _ => e.1.isLt
  refine (List.perm_ext_iff_of_nodup (List.nodup_range.filter _) (by decide)).mpr fun k => ?_
  simp only [List.mem_filter, List.mem_range, decide_eq_true_eq, op2Table_eq_none_iff, not_not, List.mem_map]
  constructor
  · rintro ⟨hk, e, he, hek⟩
    exact ⟨e, he, by rw [hek, BitVec.toNat_ofNat, Nat.mod_eq_of_lt hk]⟩
  · rintro ⟨e, he, rfl⟩
    exact ⟨hbytes e he, e, he, by simp⟩

/-- Of the 256 second bytes, all but those 21 have no row (R94). -/
theorem length_secondBytes_noRow :
    ((List.range 256).filter fun k => op2Table (BitVec.ofNat 8 k) = none).length = 235 := by
  have hsplit := List.length_eq_length_filter_add (l := List.range 256) fun k => decide (op2Table (BitVec.ofNat 8 k) = none)
  have hrows := secondBytes_perm.length_eq
  simp only [decide_not, List.length_map, List.length_range] at hsplit hrows
  have hmap : secondByteMap.length = 21 := rfl
  omega

/-- An opcode that is read as a row has that row's opcode bytes (R93). -/
theorem encode_of_decodeOpcode {bytes rest : List Byte} {i : Instr} (h : decodeOpcode bytes = .ok (i, rest)) :
    i.opcode.encode ++ rest = bytes := by
  unfold decodeOpcode at h
  split at h
  · cases h
  · split at h
    case isTrue hfd =>
      subst hfd
      split at h
      · cases h
      · split at h <;> cases h
        rename_i htable
        rw [opcode_of_op2Table htable]
        rfl
    case isFalse =>
      split at h <;> cases h
      rename_i htable
      rw [opcode_of_op1Table _ i htable]
      rfl

/-- A first byte with no row, other than `FD`, is rejected by its value. -/
theorem decodeOpcode_one_noRow {b : Byte} (hfd : b ≠ 0xFD#8) (h : op1Table b = none) (rest : List Byte) :
    decodeOpcode (b :: rest) = .error (.noRow (.one b)) := by
  simp only [decodeOpcode, if_neg hfd, h]

/-- After `FD`, a second byte with no row is rejected by its value. -/
theorem decodeOpcode_fd_noRow {b : Byte} (h : op2Table b = none) (rest : List Byte) :
    decodeOpcode (0xFD#8 :: b :: rest) = .error (.noRow (.fd b)) := by
  simp only [decodeOpcode, if_true, h]

end Sys2Proof
end

section
/-! SUPPORT. Whole instructions: decoding an encoding and encoding what was decoded (R84, R86). -/

namespace Sys2Proof

section
variable {limit : BitVec 32}

/-- After the opcode of a row, the decoder reads the row's operands. -/
theorem decode_opcode_append (i : Instr) (bytes : List Byte) :
    decode (i.opcode.encode ++ bytes) limit =
      (parseOperands limit 0 i.operandDecls bytes).map fun (os, rest) => (⟨i, os⟩, rest) := by
  simp only [decode, decodeOpcode_encode]
  rcases parseOperands limit 0 i.operandDecls bytes with _ | ⟨os, rest⟩ <;> rfl

/-- A well-formed instruction is read back, whatever follows. -/
theorem decode_encode {ci : CodedInstr} (h : ci.wf limit = true) (rest : List Byte) :
    decode (ci.encode ++ rest) limit = .ok (ci, rest) := by
  rw [CodedInstr.encode, List.append_assoc, decode_opcode_append, parseOperands_encode limit 0 _ _ h]
  rfl

/-- What is decoded is an opcode and the operands after it. -/
theorem decode_eq_ok {bytes rest : List Byte} {ci : CodedInstr} (h : decode bytes limit = .ok (ci, rest)) :
    ∃ tail, decodeOpcode bytes = .ok (ci.row, tail) ∧
      parseOperands limit 0 ci.row.operandDecls tail = .ok (ci.operands, rest) := by
  unfold decode at h
  split at h
  · cases h
  · rename_i hop
    split at h <;> cases h
    rename_i hos
    exact ⟨_, hop, hos⟩

/-- What is decoded is well formed, and its bytes with those left over are the bytes read. -/
theorem encode_decode {bytes rest : List Byte} {ci : CodedInstr} (h : decode bytes limit = .ok (ci, rest)) :
    ci.wf limit = true ∧ ci.encode ++ rest = bytes := by
  obtain ⟨tail, hop, hos⟩ := decode_eq_ok h
  obtain ⟨hfit, htail⟩ := parseOperands_eq limit _ _ _ _ _ hos
  refine ⟨hfit, ?_⟩
  rw [CodedInstr.encode, List.append_assoc, htail, encode_of_decodeOpcode hop]

/-- Bytes whose opcode is rejected are rejected for the same reason. -/
theorem decode_of_decodeOpcode_error {bytes : List Byte} {why : DecodeError} (h : decodeOpcode bytes = .error why) :
    decode bytes limit = .error why := by
  simp only [decode, h]

end

end Sys2Proof
end

section
/-! SUPPORT. The CASEx instructions: their three specifiers and their list (R91, log entries 21 and 8). -/

namespace Sys2Proof

/-- The operand list of a CASEx row whose specifiers have a given data type (R355 to R357). -/
def caseDecls (dt : DType) : List OperandDecl :=
  [specDecl "selector" .r dt, specDecl "base" .r dt, specDecl "limit" .r dt, displDecl .w true]

/-- The operands of a CASEx instruction: three specifiers and a list. -/
def caseOperands (selector base sp : Specifier) (ds : List (BitVec 16)) : List Operand :=
  [.spec selector, .spec base, .spec sp, .displList ds]

/-- CASEB, CASEW and CASEL have one operand list, at their own data types. -/
theorem operandDecls_case {i : Instr} (h : i = .caseb ∨ i = .casew ∨ i = .casel) :
    ∃ dt : DType, i.operandDecls = caseDecls dt ∧
      dt.bits = if i = .caseb then 8 else if i = .casew then 16 else 32 := by
  rcases h with rfl | rfl | rfl
  · exact ⟨.b, rfl, rfl⟩
  · exact ⟨.w, rfl, rfl⟩
  · exact ⟨.l, rfl, rfl⟩

/-- What fits a specifier entry that is no displacement is a well-formed specifier. -/
theorem fits_specDecl_r_iff {len : Nat} {name : String} {dt : DType} {o : Operand} :
    o.fits len (specDecl name .r dt) = true ↔ ∃ sp : Specifier, o = .spec sp ∧ sp.wf dt = true := by
  cases o <;> simp [Operand.fits, specDecl]

/-- What fits the entry of a displacement list is a list of the given length. -/
theorem fits_displList_iff {len : Nat} {o : Operand} :
    o.fits len (displDecl .w true) = true ↔ ∃ ds, o = .displList ds ∧ ds.length = len := by
  cases o <;> simp [Operand.fits, displDecl]

section
variable {limit : BitVec 32} {dt : DType}

theorem operandsFit_nil_iff {len : Nat} {os : List Operand} : operandsFit limit len [] os = true ↔ os = [] := by
  cases os <;> simp [operandsFit]

theorem operandsFit_cons_iff {len : Nat} {d : OperandDecl} {ds : List OperandDecl} {os : List Operand} :
    operandsFit limit len (d :: ds) os = true ↔ ∃ o os', os = o :: os' ∧ o.fits len d = true ∧
      operandsFit limit (o.listLength limit d) ds os' = true := by
  cases os <;> simp [operandsFit]

/-- The operands that fit a CASEx row: three well-formed specifiers and a list as long as the third says. -/
theorem operandsFit_case_iff {os : List Operand} : operandsFit limit 0 (caseDecls dt) os = true ↔
    ∃ selector base sp ds, os = caseOperands selector base sp ds ∧
      (selector.wf dt = true ∧ base.wf dt = true ∧ sp.wf dt = true) ∧
      ds.length = (constantOf sp).getD (limit.toNat % 2 ^ dt.bits) + 1 := by
  simp only [caseDecls, operandsFit_cons_iff, operandsFit_nil_iff, fits_specDecl_r_iff, fits_displList_iff]
  constructor
  · rintro ⟨_, _, rfl, ⟨selector, rfl, hselector⟩, _, _, rfl, ⟨base, rfl, hbase⟩, _, _, rfl, ⟨sp, rfl, hsp⟩,
      _, _, rfl, ⟨ds, rfl, hds⟩, rfl⟩
    exact ⟨selector, base, sp, ds, rfl, ⟨hselector, hbase, hsp⟩, hds⟩
  · rintro ⟨selector, base, sp, ds, rfl, ⟨hselector, hbase, hsp⟩, hds⟩
    exact ⟨_, _, rfl, ⟨selector, rfl, hselector⟩, _, _, rfl, ⟨base, rfl, hbase⟩, _, _, rfl, ⟨sp, rfl, hsp⟩,
      _, _, rfl, ⟨ds, rfl, hds⟩, rfl⟩

/-- A constant of a well-formed specifier is one of the operand's data type: a short literal has six bits, and an immediate
constant is as long as the operand. -/
theorem constantOf_lt {sp : Specifier} {n : Nat} (hwf : sp.wf dt = true) (h : constantOf sp = some n) : n < 2 ^ dt.bits := by
  have hbits : 8 ≤ dt.bits := by cases dt <;> decide
  unfold constantOf at h
  split at h <;> cases h
  case h_1 x => exact x.isLt.trans_le (Nat.pow_le_pow_right (by decide) (by omega))
  all_goals
    rename_i x
    cases dt <;> simp only [Specifier.wf, BaseMode.wf, Imm.fits, Bool.false_eq_true] at hwf <;> exact x.isLt

/-- A list of limit + 1 words has at most one word for each value of the limit's data type. -/
theorem listLength_le {sp : Specifier} (hwf : sp.wf dt = true) :
    (constantOf sp).getD (limit.toNat % 2 ^ dt.bits) + 1 ≤ 2 ^ dt.bits := by
  cases hconst : constantOf sp with
  | none => exact Nat.mod_lt _ (Nat.two_pow_pos _)
  | some n => exact constantOf_lt hwf hconst

/-- Operands whose first one fits are rejected when the operands after it are. -/
theorem parseOperands_cons_error {len : Nat} {d : OperandDecl} {ds : List OperandDecl} {o : Operand} {bytes : List Byte}
    {why : DecodeError} (hfit : o.fits len d = true)
    (h : parseOperands limit (o.listLength limit d) ds bytes = .error why) :
    parseOperands limit len (d :: ds) (o.encode ++ bytes) = .error why := by
  simp only [parseOperands, parseOperand_encode len d o hfit, h]

/-- A list that is cut short is rejected. -/
theorem parseOperands_displList_error {len : Nat} {bytes : List Byte} (h : takeWords len bytes = .error .truncated) :
    parseOperands limit len [displDecl .w true] bytes = .error .truncated := by
  simp [parseOperands, parseOperand, displDecl, parseDispl, parseList, h]

/-- The operands of a CASEx row are cut short when fewer words than the limit says follow the specifiers. -/
theorem parseOperands_case_short {selector base sp : Specifier} {ds : List (BitVec 16)} {odd : List Byte}
    (hselector : selector.wf dt = true) (hbase : base.wf dt = true) (hsp : sp.wf dt = true)
    (hds : ds.length < (constantOf sp).getD (limit.toNat % 2 ^ dt.bits) + 1) (hodd : odd.length ≤ 1) :
    parseOperands limit 0 (caseDecls dt) ((caseOperands selector base sp ds).flatMap Operand.encode ++ odd) =
      .error .truncated := by
  simp only [caseDecls, caseOperands, List.flatMap_cons, List.flatMap_nil, List.append_nil, List.append_assoc]
  refine parseOperands_cons_error (fits_specDecl_r_iff.mpr ⟨selector, rfl, hselector⟩) ?_
  refine parseOperands_cons_error (fits_specDecl_r_iff.mpr ⟨base, rfl, hbase⟩) ?_
  refine parseOperands_cons_error (fits_specDecl_r_iff.mpr ⟨sp, rfl, hsp⟩) ?_
  exact parseOperands_displList_error (takeWords_short _ ds odd hds hodd)

end

end Sys2Proof

namespace Sys2Proof.Machine

open Sys2Proof

/-- The limit of a CASEx instruction is its third operand. -/
theorem operandNamed_limit_case {i : Instr} {dt : DType} (h : i.operandDecls = caseDecls dt)
    (selector base sp : Specifier) (ds : List (BitVec 16)) :
    operandNamed "limit" ⟨i, caseOperands selector base sp ds⟩ = some sp := by
  simp [operandNamed, h, caseDecls, caseOperands, specDecl]

end Sys2Proof.Machine
end

section
/-! SUPPORT. Events whose instruction has no row (R94). -/

namespace Sys2Proof.Machine

open Sys2Proof

/-- A name that is no row's names an instruction with no row. -/
theorem fetch_name_noRow {m : String} (h : rowOf m = none) : fetch (.name m) = .noRow (.text m) := by
  simp only [fetch, h]

/-- Bytes whose opcode has no row give an instruction with no row. -/
theorem fetch_code_noRow {bytes : List Byte} {o : Opcode} (h : decodeOpcode bytes = .error (.noRow o)) (limit : BitVec 32) :
    fetch (.code bytes limit) = .noRow (.opcode o) := by
  simp only [fetch, decode_of_decodeOpcode_error h]

/-- An event whose instruction has no row is refused under the instruction's name (R705). -/
theorem step_noRow {s : State} {src : Source} {f : Facts} {pick : Cost} {m : InstrName}
    (hready : s.Ready ⟨.instr src f, pick⟩) (h : fetch src = .noRow m) : step s = .next (s.refuse (.noRow m)) := by
  simp only [step_instr hready, stepInstr, h]

end Sys2Proof.Machine
end

section
/-! SUPPORT. The names of the rows (R96): no two of the 276 are the same, so that a name finds its row wherever that row stands in the
table. -/

namespace Sys2Proof

/-- The mnemonic of a row and its further names (R96). -/
def Instr.names (i : Instr) : List String := i.name :: i.furtherNames

/-- A text as a number, its characters the digits. -/
def textCode (m : String) : Nat := m.toList.foldl (fun code c => 128 * code + c.toNat) 0

/-- Numbers with no repetition in any class of remainders have none at all, because equal numbers are in one class. Comparing within
the classes only is what makes the names cheap to compare. -/
theorem nodup_of_nodup_classes {l : List Nat} {k : Nat} (hk : 0 < k) (h : ∀ r < k, (l.filter (· % k = r)).Nodup) :
    l.Nodup := by
  refine List.nodup_iff_sublist.mpr fun a htwice => ?_
  have hclass := htwice.filter (· % k = a % k)
  simp only [decide_true, List.filter_cons_of_pos, List.filter_nil] at hclass
  exact List.nodup_iff_sublist.mp (h _ (Nat.mod_lt _ hk)) a hclass

/-- No two names of rows are the same: their numbers differ. -/
theorem names_nodup : (allRows.flatMap Instr.names).Nodup := by
  have hcodes : ((allRows.flatMap Instr.names).map textCode).Nodup :=
    nodup_of_nodup_classes (k := 13) (by decide) (by decide)
  exact hcodes.of_map

/-- A row stands in the list of its family. -/
theorem mem_family_rows (i : Instr) : i ∈ i.family.rows := by
  cases i <;> decide

/-- Every row stands in the table. -/
theorem mem_allRows (i : Instr) : i ∈ allRows := by
  have hfamily := mem_family_rows i
  simp only [allRows, List.mem_append]
  cases hf : i.family <;> simp only [hf] at hfamily <;> simp only [hfamily, true_or, or_true]

/-- A name of two rows is a name of one row. -/
theorem eq_of_mem_names {i j : Instr} {m : String} (hi : m ∈ i.names) (hj : m ∈ j.names) : i = j := by
  by_contra hne
  obtain ⟨-, hdisjoint⟩ := List.nodup_flatMap.mp names_nodup
  have hsymm : Std.Symm (Function.onFun List.Disjoint Instr.names) := ⟨fun _ _ h => h.symm⟩
  exact hdisjoint.forall (mem_allRows i) (mem_allRows j) hne hi hj

/-- `row_of` maps a text to a row exactly when it is one of the row's names (R703). -/
theorem rowOf_eq_some_iff {m : String} {i : Instr} : rowOf m = some i ↔ m ∈ i.names := by
  have hnamed : ∀ j : Instr, (j.name == m || j.furtherNames.contains m) = true ↔ m ∈ j.names := fun j => by
    simp only [Instr.names, Bool.or_eq_true, beq_iff_eq, List.contains_iff_mem, List.mem_cons, eq_comm (a := m)]
  have hfound : ∀ j : Instr, rowOf m = some j → m ∈ j.names := fun j hfind => by
    rw [rowOf] at hfind
    have hj := List.find?_some hfind
    exact (hnamed j).mp hj
  refine ⟨hfound i, fun h => ?_⟩
  cases hfind : rowOf m with
  | none => exact absurd ((hnamed i).mpr h) (List.find?_eq_none.mp hfind i (mem_allRows i))
  | some j => rw [eq_of_mem_names (hfound j hfind) h]

/-- The further names of the rows are those of R96. -/
theorem furtherNames_subset (i : Instr) : i.furtherNames ⊆ ["CLRF", "CLRD", "CLRG", "MOVAF", "MOVAD", "MOVAG", "PUSHAF",
    "PUSHAD", "PUSHAG", "BGEQU", "BLSSU", "BEQLU", "BNEQU"] := by
  cases i <;> decide

end Sys2Proof
end

section
/-! SUPPORT. The rows of the addressing modes (R85). -/

namespace Sys2Proof.Machine

open Sys2Proof

theorem rowNumber_bounds (a : AddrRow) : 1 ≤ rowNumber a ∧ rowNumber a ≤ 20 := by
  obtain ⟨kind, indexed⟩ := a
  cases kind <;> cases indexed <;> decide

/-- The indexed rows are the ones after the tenth. -/
theorem ten_lt_rowNumber_iff (a : AddrRow) : 10 < rowNumber a ↔ a.indexed = true := by
  obtain ⟨kind, indexed⟩ := a
  cases kind <;> cases indexed <;> decide

/-- Row 2 is register mode without an index. -/
theorem rowNumber_eq_two_iff (a : AddrRow) : rowNumber a = 2 ↔ a = ⟨.register, false⟩ := by
  obtain ⟨kind, indexed⟩ := a
  cases kind <;> cases indexed <;> decide

/-- The rows of short literals are 1 and 11, of registers 2 and 12, of immediate constants 6 and 16. -/
theorem rowNumber_mem_iff (a : AddrRow) : rowNumber a ∈ [1, 2, 6, 11, 12, 16] ↔
    a.kind = .register ∨ a.kind = .shortLiteral ∨ a.kind = .immediate := by
  obtain ⟨kind, indexed⟩ := a
  cases kind <;> cases indexed <;> decide

theorem addrRow_indexed_iff (sp : Specifier) : (addrRow sp).indexed = true ↔ ∃ rx base, sp = .indexed rx base := by
  cases sp <;> simp [addrRow]

theorem kindOf_eq_register_iff (base : BaseMode) : kindOf base = .register ↔ ∃ rn, base = .register rn := by
  cases base <;> simp [kindOf]

theorem addrRow_eq_register_iff (sp : Specifier) :
    addrRow sp = ⟨.register, false⟩ ↔ ∃ rn, sp = .plain (.register rn) := by
  cases sp <;> simp [addrRow, kindOf_eq_register_iff]

end Sys2Proof.Machine
end

section
/-! SUPPORT. The statements about the encoding, the opcode map, the names and the addressing modes, settled. -/

open Sys2Proof Sys2Proof.Machine

/-- Settles O44: the opcode is read as its row, and the operands are read back one after the other. -/
theorem decodeReadsEncode : Obligations.DecodeReadsEncode :=
  fun _ _ rest h => decode_encode h rest

/-- Settles O46: the opcode read is the row's own, and each operand read fits its entry and has the bytes it was read from. -/
theorem encodeWritesDecoded : Obligations.EncodeWritesDecoded :=
  fun _ _ _ _ h => encode_decode h

/-- Settles O45: the operands that fit a CASEx row are three specifiers and a list of the length that the third one gives, and the
specifiers are read back before a list that is cut short. -/
theorem caseDecodeReadsEncode : Obligations.CaseDecodeReadsEncode := by
  rintro ⟨i, os⟩ limit hwf hrow
  refine ⟨fun rest => decode_encode hwf rest, ?_⟩
  obtain ⟨dt, hdecls, hbits⟩ := operandDecls_case hrow
  rw [CodedInstr.wf, hdecls] at hwf
  obtain ⟨selector, base, sp, ds, rfl, ⟨hselector, hbase, hsp⟩, hlen⟩ := operandsFit_case_iff.mp hwf
  rw [← hbits]
  refine ⟨selector, base, sp, ds, rfl, operandNamed_limit_case hdecls selector base sp ds, fun n hn => ?constant,
    fun hn => ?input, ?atLeastOne, ?atMost, fun k hk odd hodd => ?short⟩
  case constant => rw [hlen, hn, Option.getD_some]
  case input => rw [hlen, hn, Option.getD_none]
  case atLeastOne => exact hlen ▸ Nat.succ_pos _
  case atMost => exact hlen ▸ listLength_le hsp
  case short =>
    have hcut : (ds.take k).length < (constantOf sp).getD (limit.toNat % 2 ^ dt.bits) + 1 := by
      rw [← hlen, List.length_take]
      omega
    have hparse := parseOperands_case_short hselector hbase hsp hcut hodd
    rw [← hdecls] at hparse
    rw [CodedInstr.encode, List.append_assoc, decode_opcode_append]
    exact congrArg (Except.map _) hparse

/-- Settles O28: the two transcriptions of a row's cost are compared row by row. -/
theorem tableCostsAgree : Obligations.TableCostsAgree :=
  tableCharge_eq_ruleOf

/-- Settles O47: what is read back is a left inverse of the opcodes, and the gaps of the two maps are counted. -/
theorem opcodeMap : Obligations.OpcodeMap :=
  ⟨decodeOpcode_encode, fun _ _ h => opcode_injective h, op1Table_eq_none_iff, length_secondBytes_noRow⟩

/-- Settles O40: each of the three ways to give an instruction with no row is fetched as one. -/
theorem noRowIsRefused : Obligations.NoRowIsRefused := by
  refine ⟨fun s name f pick hready hname => ?name, fun s b0 rest limit f pick hready hb => ?one,
    fun s b1 rest limit f pick hready hb => ?fd⟩
  case name => exact step_noRow hready (fetch_name_noRow hname)
  case one =>
    have hfd : b0 ≠ 0xFD#8 := by
      rintro rfl
      revert hb
      decide
    have htable : op1Table b0 = none := (op1Table_eq_none_iff b0).mpr (List.mem_of_mem_filter (p := (· != 0xFD#8)) hb)
    exact step_noRow hready (fetch_code_noRow (decodeOpcode_one_noRow hfd htable rest) limit)
  case fd => exact step_noRow hready (fetch_code_noRow (decodeOpcode_fd_noRow hb rest) limit)

/-- Settles O48: the decoder evaluated on each of the byte sequences. -/
theorem decodedWords : Obligations.DecodedWords :=
  ⟨rfl, rfl, rfl, rfl, rfl, rfl, rfl, rfl⟩

/-- Settles O49: a text is mapped to a row exactly when it is one of the row's names. -/
theorem namesOfRows : Obligations.NamesOfRows := by
  simp only [Obligations.NamesOfRows, rowOf_eq_some_iff]
  refine ⟨fun i => List.mem_cons_self, ?_, ?_, ?_, ?_, ?_, ?_, ?_, ?_, ?_, ?_, ?_, ?_, ?_, fun m i hm => ?further⟩
  case further => exact (List.mem_cons.mp hm).imp_right fun hfurther => furtherNames_subset i hfurther
  all_goals decide

/-- Settles O50: what the row number says of a specifier is read off its mode and whether it has an index. -/
theorem registerModeFact : Obligations.RegisterModeFact := by
  intro sp
  obtain ⟨hmin, hmax⟩ := rowNumber_bounds (addrRow sp)
  refine ⟨hmin, hmax, ?indexed, ?register, ?memory⟩
  case indexed => rw [ten_lt_rowNumber_iff, addrRow_indexed_iff]
  case register => rw [inRegister, beq_iff_eq, rowNumber_eq_two_iff, addrRow_eq_register_iff]
  case memory =>
    rw [rowNumber_mem_iff, ← Bool.not_eq_true, inMemory_iff]
    tauto
end

section
/-! SUPPORT. Rows with one cell, supplied intervals and restarts of the pipeline: what the shared operations of a step charge for them. -/

namespace Sys2Proof

/-- Restarts that the two ends of a draw share are charged whatever is picked. -/
theorem Cost.clamp_rst_of_eq {lo hi : Cost} {k : Nat} (hlo : lo.rst = k) (hhi : hi.rst = k) (pick : Cost) :
    (Cost.clamp lo hi pick).rst = k := by
  simp only [Cost.clamp, hlo, hhi]
  omega

end Sys2Proof

namespace Sys2Proof.Machine

open Sys2Proof

/-! ### Rows with one cell -/

/-- A linear form with no coefficient of a count and no misprediction is the same cost at all facts (R98). -/
theorem LinCost.at_of_constants (c r w rst pfl : Nat) (f : Facts) :
    ({ c := c, r := r, w := w, rst := rst, pfl := pfl } : LinCost).at f =
      { c := c, r := r, w := w, rst := rst, pfl := pfl } := by
  simp [LinCost.at]

/-- A row with one cell charges what that cell says: some cell of the row always holds. -/
theorem ruleOf_of_singleCell {i : Instr} {cell : Cell} (h : cellsOf i = [cell]) (p : Params) (f : Facts) :
    ruleOf i p f = chargeOfCell i p f cell := by
  obtain ⟨found, hfind, hrule⟩ := ruleOf_eq_chargeOfCell i p f
  have hmem := List.mem_of_find?_eq_some hfind
  rw [h, List.mem_singleton] at hmem
  rw [hrule, hmem]

section
variable {s : State} {e : Entry} {i : Instr}

/-- A row whose one cell is a fixed cost, free of the facts, charges that cost and the adders. -/
theorem exec_of_fixedCell {c r w rst pfl : Nat} (hs : s.Ready e)
    (h : cellsOf i = [fixedCell .always { c := c, r := r, w := w, rst := rst, pfl := pfl }]) :
    exec i s = .next (s.charge (Cost.add { c := c, r := r, w := w, rst := rst, pfl := pfl } (adders e.facts))) := by
  refine exec_of_fixed hs ?_
  rw [ruleOf_of_singleCell h, ← LinCost.at_of_constants c r w rst pfl e.facts]
  rfl

/-- A row whose one cell is a range of costs, free of the facts, draws from that range and charges the adders. -/
theorem exec_of_rangeCell {c r w rst pfl c' r' w' rst' pfl' : Nat} {typ : Option LinCost} (hs : s.Ready e)
    (h : cellsOf i = [rangeCell .always { c := c, r := r, w := w, rst := rst, pfl := pfl }
      { c := c', r := r', w := w', rst := rst', pfl := pfl' } typ]) :
    ChargesDraw (exec i s) s e.pick { c := c, r := r, w := w, rst := rst, pfl := pfl }
      { c := c', r := r', w := w', rst := rst', pfl := pfl' } (adders e.facts) := by
  have hle := (cellsOf_endsInOrder i _ (h ▸ List.mem_singleton_self _)).at_le e.facts
  rw [← LinCost.at_of_constants c r w rst pfl e.facts, ← LinCost.at_of_constants c' r' w' rst' pfl' e.facts]
  exact exec_of_ranged hs hle (ruleOf_of_singleCell h _ _)

end

/-! ### Supplied intervals -/

section
variable {m : Instr} {p : Params}

/-- A `tbd` cell draws from the interval that is supplied for its row (R450). -/
theorem tbdCell_of_supplied {lo hi : Cost} (h : tbdCostOf p m = some (lo, hi)) (f : Facts) :
    tbdCell m p f = ranged lo hi f := by
  simp only [tbdCell, h]

/-- A `tbd` cell of a row for which nothing is supplied is refused (R450, R705). -/
theorem tbdCell_of_not_supplied (h : tbdCostOf p m = none) (f : Facts) : tbdCell m p f = .refuse (.tbd m) := by
  simp only [tbdCell, h]

end

/-! ### The FPA -/

/-- The rule of the two long multiplies, whose cell depends on the FPA (R202, R270, R273). -/
theorem ruleOf_longMultiply {i : Instr} (h : i = .mull2 ∨ i = .mull3) (p : Params) (f : Facts) :
    ruleOf i p f = if p.hasFpa then tbdCell i p f else fixed { c := 38 } f := by
  rcases h with rfl | rfl <;> rfl

/-- No other row lists the FPA among what it reads (R202). -/
theorem eq_longMultiply_of_hasFpa_mem (i : Instr) : .hasFpa ∈ factsOf i → i = .mull2 ∨ i = .mull3 := by
  cases i <;> decide

/-- Every fact but the FPA is one of the event's. -/
theorem FactName.agree_of_ne_hasFpa {name : FactName} (h : name ≠ .hasFpa) (p q : Params) (f : Facts) :
    name.agree p q f f := by
  cases name with
  | hasFpa => exact absurd rfl h
  | sumInReg | vInReg | mispredicted | n | k | frameKind | sizeIsOne => rfl

/-! ### Restarts of the pipeline -/

/-- How many pipeline restarts a row charges: one on each of the eighteen rows of R709. -/
def restartCount (i : Instr) : Nat :=
  if i ∈ ([.ediv, .callg, .calls, .ret, .popr, .pushr, .cmpc3, .cmpc5, .locc, .movc3, .movc5, .scanc, .skpc, .spanc,
    .ldpctx, .svpctx, .mtpr, .mfpr] : List Instr) then 1 else 0

/-- Both ends of a cell that is not `tbd` carry the restarts of its row. -/
theorem cellsOf_rst_eq_restartCount (i : Instr) :
    ∀ cell ∈ cellsOf i, cell.kind ≠ .tbd → cell.lo.rst = restartCount i ∧ cell.hi.rst = restartCount i := by
  cases i <;> decide

/-- Neither the adders nor the extra cost of an exception's row carry a restart (R62). -/
theorem ruleOf_draw_extra_rst {i : Instr} {p : Params} {f : Facts} {lo hi extra : Cost}
    (h : ruleOf i p f = .draw lo hi extra) : extra.rst = 0 := by
  rw [ruleOf_draw_extra h]
  split <;> rfl

/-- A row that is not `tbd` carries its restarts in both ends of its interval. -/
theorem ruleOf_draw_rst {i : Instr} {p : Params} {f : Facts} {lo hi extra : Cost} (hp : isTbd p i = false)
    (h : ruleOf i p f = .draw lo hi extra) : lo.rst = restartCount i ∧ hi.rst = restartCount i := by
  obtain ⟨cell, hmem, -, ⟨hkind, hrule⟩ | ⟨hkind, hrule⟩⟩ := ruleOf_of_not_isTbd hp f
  · have hends := cellsOf_rst_eq_restartCount i cell hmem (by rcases hkind with hkind | hkind <;> simp [hkind])
    rw [hrule] at h
    cases h
    exact hends
  · rw [hrule] at h
    cases h
    rcases exceptionCell_rows i cell hmem hkind with rfl | rfl <;> decide

/-- A row that is not `tbd` is charged, and the charge restarts the pipeline as often as its cell says (R709). -/
theorem exec_rst_of_not_isTbd {s : State} {e : Entry} {i : Instr} (hs : s.Ready e) (hp : isTbd s.params i = false) :
    ∃ t, exec i s = .next t ∧ t.refused = none ∧ t.pos = s.pos + 1 ∧ t.acc.rst = s.acc.rst + restartCount i := by
  obtain ⟨lo, hi, extra, hrule, -, hexec⟩ := exec_of_not_isTbd hs hp
  obtain ⟨hlo, hhi⟩ := ruleOf_draw_rst hp hrule
  refine ⟨_, hexec, hs.notRefused, rfl, ?_⟩
  simp only [State.charge_acc, Cost.add_rst, Cost.clamp_rst_of_eq hlo hhi, ruleOf_draw_extra_rst hrule, Nat.add_zero]

/-- Of the integer rows only EDIV restarts the pipeline (R200). -/
theorem restartCount_of_integer : ∀ i ∈ Family.rows .integer, i ≠ .ediv → restartCount i = 0 := by
  decide

/-! ### The row of an event -/

/-- Bytes that decode give the row that was decoded (R95). -/
theorem fetch_code_row {bytes rest : List Byte} {limit : BitVec 32} {ci : CodedInstr}
    (h : decode bytes limit = .ok (ci, rest)) : fetch (.code bytes limit) = .row ci.row := by
  simp only [fetch, h]

/-- A name of a row gives that row (R703). -/
theorem fetch_name_row {m : String} {i : Instr} (h : rowOf m = some i) : fetch (.name m) = .row i := by
  simp only [fetch, h]

/-- The charge of an instruction event is its row's, however the row was found. -/
theorem eventCharge_of_fetch_row {src : Source} {i : Instr} (h : fetch src = .row i) (p : Params) (f : Facts) :
    eventCharge p (.instr src f) = some (ruleOf i p f) := by
  simp only [eventCharge, h]

end Sys2Proof.Machine
end

section
/-! SUPPORT. The statements about the integer rows, the FPA and the operands of an event, settled. -/

open Sys2Proof Sys2Proof.Machine

/-- Settles O29: a row's charge depends on the facts listed for it only, and the FPA is listed for the two long multiplies only. -/
theorem fpaChangesTwoRows : Obligations.FpaChangesTwoRows := by
  intro i f tbd
  split
  case isTrue hrow => exact ⟨ruleOf_longMultiply hrow _ _, ruleOf_longMultiply hrow _ _⟩
  case isFalse hrow =>
    have hnot : .hasFpa ∉ factsOf i := fun hmem => hrow (eq_longMultiply_of_hasFpa_mem i hmem)
    exact ruleOf_congr (fun _ hname => FactName.agree_of_ne_hasFpa (ne_of_mem_of_not_mem hname hnot) _ _ f) rfl rfl

/-- Settles O39: each of the three events is fetched as one row, and the charge is that row's. -/
theorem costIndependentOfOperands : Obligations.CostIndependentOfOperands := by
  intro p f ci ci' bytes bytes' rest rest' limit limit' name hdecode hdecode' hrow hname
  rw [eventCharge_of_fetch_row (fetch_code_row hdecode), eventCharge_of_fetch_row (fetch_code_row hdecode'),
    eventCharge_of_fetch_row (fetch_name_row hname), hrow]
  exact ⟨rfl, rfl⟩

/-- Settles O7: the one cell of each of the rows is one cycle. -/
theorem oneCycleIntegerCost : Obligations.OneCycleIntegerCost := by
  intro s e hs i hi
  refine exec_of_fixedCell hs ?_
  revert i
  decide

/-- Settles O8: the one cell of each of the rows is the fixed cost stated. -/
theorem fixedIntegerCost : Obligations.FixedIntegerCost := by
  intro s e hs
  refine ⟨fun i hi => exec_of_fixedCell hs ?_, fun i hi => exec_of_fixedCell hs ?_, fun i hi => exec_of_fixedCell hs ?_,
    fun i hi => exec_of_fixedCell hs ?_⟩
  all_goals
    revert i
    decide

/-- Settles O9: the two branches of the rule of ADAWI. -/
theorem adawiCost : Obligations.AdawiCost :=
  fun _ _ hs => ⟨fun hreg => exec_of_fixed hs (if_pos hreg), fun hmem => exec_of_fixed hs (if_neg (by simp [hmem]))⟩

/-- Settles O10: the one cell of each of the rows is the range stated. -/
theorem rangeIntegerCost : Obligations.RangeIntegerCost := by
  intro s e hs
  refine ⟨fun i hi => exec_of_rangeCell (typ := some { c := 4 }) hs ?_,
    fun i hi => exec_of_rangeCell (typ := some { c := 6 }) hs ?_,
    fun i hi => exec_of_rangeCell (typ := some { c := 14 }) hs ?_,
    fun i hi => exec_of_rangeCell (typ := some { c := 21 }) hs ?_,
    fun i hi => exec_of_rangeCell (typ := some { c := 16 }) hs ?_,
    fun i hi => exec_of_rangeCell (typ := some { c := 24 }) hs ?_,
    fun i hi => exec_of_rangeCell (typ := some { c := 40 }) hs ?_⟩
  all_goals
    revert i
    decide

/-- Settles O11: the restarts of EDIV stand in its cell, and no other integer row has a restart. -/
theorem edivCost : Obligations.EdivCost := by
  intro s e hs
  refine ⟨exec_of_rangeCell hs rfl, fun i hinteger hne hp => ?_⟩
  obtain ⟨t, hexec, -, hpos, hrst⟩ := exec_rst_of_not_isTbd hs hp
  rw [restartCount_of_integer i hinteger hne] at hrst
  exact ⟨t, hexec, hpos, hrst⟩

/-- Settles O12: without an FPA the cell is fixed, with one it is `tbd`. -/
theorem longMultiplyCost : Obligations.LongMultiplyCost := by
  intro s e hs i hi
  have hrule := ruleOf_longMultiply (by simpa using hi) s.params e.facts
  refine ⟨fun hfpa => ?without, fun lo up hfpa hsup hle => ?supplied, fun hfpa hsup => ?refused⟩
  case without => exact exec_of_fixed hs (by rw [hrule, hfpa]; rfl)
  case supplied => exact exec_of_ranged hs hle (by rw [hrule, if_pos hfpa, tbdCell_of_supplied hsup])
  case refused => rw [exec_ready hs, hrule, if_pos hfpa, tbdCell_of_not_supplied hsup, applyCharge_refuse]
end

section
/-! SUPPORT. The rules of the field rows that come in pairs: the two rows of a pair have the same two cells. -/

namespace Sys2Proof.Machine

open Sys2Proof

/-- The two field compares, zero-extended or not, share one rule (R311, R312). -/
theorem ruleOf_fieldCompare {i : Instr} (h : i = .cmpv ∨ i = .cmpzv) (p : Params) (f : Facts) :
    ruleOf i p f = if f.vInReg then fixed { c := 9 } f else ranged { c := 13, r := 1 } { c := 16, r := 2 } f := by
  rcases h with rfl | rfl <;> rfl

/-- The two field extracts, zero-extended or not, share one rule (R313, R314). -/
theorem ruleOf_fieldExtract {i : Instr} (h : i = .extv ∨ i = .extzv) (p : Params) (f : Facts) :
    ruleOf i p f = if f.vInReg then fixed { c := 8 } f else ranged { c := 12, r := 1 } { c := 15, r := 2 } f := by
  rcases h with rfl | rfl <;> rfl

end Sys2Proof.Machine
end

section
/-! SUPPORT. The statement about the field rows, settled. -/

open Sys2Proof Sys2Proof.Machine

/-- Settles O14: each field row's rule branches on whether the field is in a register, and the branch taken is the cell stated. -/
theorem fieldCost : Obligations.FieldCost := by
  intro s e hs
  refine ⟨fun hreg => ⟨fun i hi => ?compareReg, fun i hi => ?extractReg, fun i hi => ?insvReg, fun i hi => ?ffcReg,
    fun i hi => ?ffsReg⟩, fun hfalse => ?inMemory⟩
  case compareReg => exact exec_of_fixed hs (by rw [ruleOf_fieldCompare (by simpa using hi), if_pos hreg])
  case extractReg => exact exec_of_fixed hs (by rw [ruleOf_fieldExtract (by simpa using hi), if_pos hreg])
  case insvReg | ffcReg | ffsReg =>
    obtain rfl := List.mem_singleton.mp hi
    exact exec_of_ranged hs (by decide) (if_pos hreg)
  case inMemory =>
    have hmem : ¬ e.facts.vInReg = true := by simp [hfalse]
    refine ⟨fun i hi => ?compare, fun i hi => ?extract, fun i hi => ?insv, fun i hi => ?ffc, fun i hi => ?ffs⟩
    case compare => exact exec_of_ranged hs (by decide) (by rw [ruleOf_fieldCompare (by simpa using hi), if_neg hmem])
    case extract => exact exec_of_ranged hs (by decide) (by rw [ruleOf_fieldExtract (by simpa using hi), if_neg hmem])
    case insv | ffc | ffs =>
      obtain rfl := List.mem_singleton.mp hi
      exact exec_of_ranged hs (by decide) (if_neg hmem)
end

section
/-! SUPPORT. Rows with more than one cell and mispredicted events: the one cell of a row that holds at an event, and what a
misprediction adds to a row's charge (R321). -/

namespace Sys2Proof

/-- Mispredictions that the two ends of a draw share are charged whatever is picked. -/
theorem Cost.clamp_mpr_of_eq {lo hi : Cost} {k : Nat} (hlo : lo.mpr = k) (hhi : hi.mpr = k) (pick : Cost) :
    (Cost.clamp lo hi pick).mpr = k := by
  simp only [Cost.clamp, hlo, hhi]
  omega

end Sys2Proof

namespace Sys2Proof.Machine

open Sys2Proof

/-! ### The one cell that holds -/

/-- Two conditions that ask for different values of the same fact or parameter. -/
def When.excludes : When → When → Bool
  | .sumInReg a, .sumInReg b | .vInReg a, .vInReg b | .sizeIsOne a, .sizeIsOne b | .frameKind a, .frameKind b
  | .hasFpa a, .hasFpa b => a != b
  | _, _ => false

/-- No event meets two conditions that exclude each other. -/
theorem When.not_holds_of_excludes {w w' : When} {p : Params} {f : Facts} (h : w.excludes w' = true)
    (hw : w.holds p f = true) : ¬ w'.holds p f = true := by
  unfold excludes at h
  split at h
  case h_6 => cases h
  all_goals
    simp only [holds, beq_iff_eq] at hw ⊢
    exact hw ▸ bne_iff_ne.mp h

/-- The conditions of the different cells of a row exclude each other (R98). -/
theorem cellsOf_when_excludes (i : Instr) :
    ∀ cell ∈ cellsOf i, ∀ cell' ∈ cellsOf i, cell = cell' ∨ cell.when.excludes cell'.when = true := by
  cases i <;> decide

/-- A row charges what any of its cells says whose condition holds at the event. -/
theorem ruleOf_of_cell_holds {i : Instr} {p : Params} {f : Facts} {cell : Cell} (hmem : cell ∈ cellsOf i)
    (hholds : cell.when.holds p f = true) : ruleOf i p f = chargeOfCell i p f cell := by
  obtain ⟨found, hfind, hrule⟩ := ruleOf_eq_chargeOfCell i p f
  have hfound : found.when.holds p f = true := List.find?_some (p := fun cell : Cell => cell.when.holds p f) hfind
  rcases cellsOf_when_excludes i cell hmem found (List.mem_of_find?_eq_some hfind) with rfl | hexcludes
  · exact hrule
  · exact absurd hfound (When.not_holds_of_excludes hexcludes hholds)

/-! ### The conditional branches -/

/-- A linear form with no coefficient of a count whose `mpr` is 1 has `m(f)` mispredictions (R321). -/
theorem LinCost.at_of_mispredict (c r w : Nat) (f : Facts) :
    ({ c := c, r := r, w := w, mpr := 1 } : LinCost).at f =
      { c := c, r := r, w := w, mpr := if f.mispredicted then 1 else 0 } := by
  simp [LinCost.at]

/-- A row with a fixed cell that carries a misprediction, at an event where the cell holds, charges the cell's cost, one
misprediction if there was one, and the adders (R321). -/
theorem exec_of_branchCell {s : State} {e : Entry} {i : Instr} {cond : When} {c r w : Nat} (hs : s.Ready e)
    (hholds : cond.holds s.params e.facts = true)
    (hmem : fixedCell cond { c := c, r := r, w := w, mpr := 1 } ∈ cellsOf i) :
    exec i s = .next (s.charge
      (Cost.add { c := c, r := r, w := w, mpr := if e.facts.mispredicted then 1 else 0 } (adders e.facts))) := by
  refine exec_of_fixed hs ?_
  rw [ruleOf_of_cell_holds hmem hholds, ← LinCost.at_of_mispredict c r w e.facts]
  rfl

/-! ### Mispredictions -/

/-- How many mispredictions a row charges at a mispredicted event: one on each of the 29 rows of R321. -/
def mispredictCount (i : Instr) : Nat :=
  if i ∈ ([.acbb, .acbl, .acbw, .aobleq, .aoblss, .bcc, .bcs, .beql, .bgeq, .bgtr, .bgtru, .bleq, .blequ, .blss, .bneq,
    .bvc, .bvs, .bbc, .bbs, .bbcc, .bbcs, .bbsc, .bbss, .bbcci, .bbssi, .blbc, .blbs, .sobgeq, .sobgtr] : List Instr)
  then 1 else 0

/-- Both ends of a cell that is not `tbd` carry the mispredictions of its row. -/
theorem cellsOf_mpr_eq_mispredictCount (i : Instr) :
    ∀ cell ∈ cellsOf i, cell.kind ≠ .tbd → cell.lo.mpr = mispredictCount i ∧ cell.hi.mpr = mispredictCount i := by
  cases i <;> decide

/-- Neither the adders nor the extra cost of an exception's row carry a misprediction (R62). -/
theorem ruleOf_draw_extra_mpr {i : Instr} {p : Params} {f : Facts} {lo hi extra : Cost}
    (h : ruleOf i p f = .draw lo hi extra) : extra.mpr = 0 := by
  rw [ruleOf_draw_extra h]
  split <;> rfl

/-- A row that is not `tbd` carries its mispredictions in both ends of its interval if the event was mispredicted, and none
otherwise. -/
theorem ruleOf_draw_mpr {i : Instr} {p : Params} {f : Facts} {lo hi extra : Cost} (hp : isTbd p i = false)
    (h : ruleOf i p f = .draw lo hi extra) :
    lo.mpr = (if f.mispredicted then mispredictCount i else 0) ∧
      hi.mpr = if f.mispredicted then mispredictCount i else 0 := by
  obtain ⟨cell, hmem, -, ⟨hkind, hrule⟩ | ⟨hkind, hrule⟩⟩ := ruleOf_of_not_isTbd hp f
  · obtain ⟨hlo, hhi⟩ :=
      cellsOf_mpr_eq_mispredictCount i cell hmem (by rcases hkind with hkind | hkind <;> simp [hkind])
    rw [hrule] at h
    cases h
    simp only [LinCost.at, hlo, hhi, and_self]
  · have hzero : mispredictCount i = 0 := by
      rcases exceptionCell_rows i cell hmem hkind with rfl | rfl <;> decide
    rw [hrule] at h
    cases h
    simp only [hzero, ite_self, and_self]

end Sys2Proof.Machine
end

section
/-! SUPPORT. The statements about the control rows, settled. -/

open Sys2Proof Sys2Proof.Machine

/-- Settles O32: both ends of a row's interval carry its mispredictions, so that every member of the draw does. -/
theorem mispredictOnTwentyNineRows : Obligations.MispredictOnTwentyNineRows := by
  intro s e hs i hp
  obtain ⟨lo, hi, extra, hrule, -, hexec⟩ := exec_of_not_isTbd hs hp
  obtain ⟨hlo, hhi⟩ := ruleOf_draw_mpr hp hrule
  refine ⟨_, hexec, hs.notRefused, ?_⟩
  simp only [State.charge_acc, Cost.add_mpr, Cost.clamp_mpr_of_eq hlo hhi, ruleOf_draw_extra_mpr hrule, Nat.add_zero,
    mispredictCount, ite_and]

/-- Settles O15: the one cell of each of the rows is the fixed cost stated, and does not depend on the facts. -/
theorem unconditionalControlCost : Obligations.UnconditionalControlCost := by
  intro s e hs
  refine ⟨fun i hi => exec_of_fixedCell hs ?_, fun i hi => exec_of_fixedCell hs ?_⟩
  all_goals
    revert i
    decide

/-- Settles O16: the one cell of each of the rows is fixed and carries a misprediction. -/
theorem conditionalBranchCost : Obligations.ConditionalBranchCost := by
  intro s e hs
  refine ⟨fun i hi => exec_of_branchCell (cond := .always) hs rfl ?_,
    fun i hi => exec_of_branchCell (cond := .always) hs rfl ?_,
    fun i hi => exec_of_branchCell (cond := .always) hs rfl ?_⟩
  all_goals
    revert i
    decide

/-- Settles O17: the place of the field chooses one of a row's two cells, and both carry a misprediction. -/
theorem bitBranchCost : Obligations.BitBranchCost := by
  intro s e hs
  refine ⟨fun hreg => ?inRegister, fun hmem => ?inMemory⟩
  case inRegister =>
    have hholds : (When.vInReg true).holds s.params e.facts = true := beq_iff_eq.mpr hreg
    refine fun i hi => exec_of_branchCell hs hholds ?_
    revert i
    decide
  case inMemory =>
    have hholds : (When.vInReg false).holds s.params e.facts = true := beq_iff_eq.mpr hmem
    refine ⟨fun i hi => exec_of_branchCell hs hholds ?_, fun i hi => exec_of_branchCell hs hholds ?_,
      fun i hi => exec_of_branchCell hs hholds ?_⟩
    all_goals
      revert i
      decide
end

section
/-! SUPPORT. The two costs between which a call draws, whatever number of registers it saves (R370). -/

namespace Sys2Proof.Machine

open Sys2Proof

/-- The dearest call is the cheapest one and one more cycle: the writes and the restart are the same (R373, R374). -/
theorem callEnds_le (w : Nat) : ({ c := 12, w := w, rst := 1 } : Cost).le { c := 13, w := w, rst := 1 } :=
  Cost.le_add { c := 12, w := w, rst := 1 } { c := 1 }

end Sys2Proof.Machine
end

section
/-! SUPPORT. The statement about the procedure call rows, settled. -/

open Sys2Proof Sys2Proof.Machine

/-- Settles O18: the rules of the two calls are one range each, in order at every `n`; the rule of RET branches on the frame kind,
and the branch taken is the cell stated. -/
theorem procedureCallCost : Obligations.ProcedureCallCost := by
  intro s e hs
  refine ⟨fun i hi => ?callg, fun i hi => ?calls, fun hG => ?retG, fun hS => ?retS⟩
  case callg | calls =>
    obtain rfl := List.mem_singleton.mp hi
    exact exec_of_ranged hs (callEnds_le _) rfl
  case retG => exact exec_of_fixed hs (if_pos hG)
  case retS =>
    have hnotG : e.facts.frameKind ≠ .G := by simp [hS]
    exact exec_of_fixed hs (if_neg hnotG)
end

section
/-! SUPPORT. The count of a register mask (R380). -/

namespace Sys2Proof.Machine

open Sys2Proof

/-- A 16-bit mask has no more set bits than it has bits (D17). -/
theorem maskCount_le (mask : BitVec 16) : maskCount mask ≤ 16 :=
  calc maskCount mask ≤ (List.range 16).length := List.countP_le_length
    _ = 16 := List.length_range

end Sys2Proof.Machine
end

section
/-! SUPPORT. The statement about the rows with a register mask, settled. -/

open Sys2Proof Sys2Proof.Machine

/-- Settles O20: the count of a mask ranges over its sixteen bits, and each of the two rows has one rule, linear in `n`. -/
theorem registerMaskCost : Obligations.RegisterMaskCost := by
  refine ⟨maskCount_le, fun s e hs => ⟨fun i hi => ?popr, fun i hi => ?pushr⟩⟩
  case popr | pushr =>
    obtain rfl := List.mem_singleton.mp hi
    exact exec_of_fixed hs rfl
end

section
/-! SUPPORT. The rules of the string rows that come in pairs: the two rows of a pair cost the same (R415 and R419, R418 and R420). -/

namespace Sys2Proof.Machine

open Sys2Proof

/-- Locating a character and skipping over it share one rule, linear in `n` (R415, R419). -/
theorem ruleOf_characterSearch {i : Instr} (h : i = .locc ∨ i = .skpc) (p : Params) (f : Facts) :
    ruleOf i p f = fixed { c := 6 + 6 * f.n, r := f.n, rst := 1 } f := by
  rcases h with rfl | rfl <;> rfl

/-- Scanning and spanning by a table of character classes share one rule, linear in `n` (R418, R420). -/
theorem ruleOf_characterClassSearch {i : Instr} (h : i = .scanc ∨ i = .spanc) (p : Params) (f : Facts) :
    ruleOf i p f = fixed { c := 8 + 9 * f.n, r := 2 * f.n, rst := 1 } f := by
  rcases h with rfl | rfl <;> rfl

end Sys2Proof.Machine
end

section
/-! SUPPORT. The statement about the string rows, settled. -/

open Sys2Proof Sys2Proof.Machine

/-- Settles O22: each string row has one rule, linear in the loop counts `n` and `k` and with one restart; the two searches come
in pairs that share their rule. -/
theorem characterStringCost : Obligations.CharacterStringCost := by
  intro s e hs
  refine ⟨fun i hi => ?cmpc3, fun i hi => ?cmpc5, fun i hi => ?search, fun i hi => ?movc3, fun i hi => ?movc5,
    fun i hi => ?classSearch⟩
  case cmpc3 | cmpc5 | movc3 | movc5 =>
    obtain rfl := List.mem_singleton.mp hi
    exact exec_of_fixed hs rfl
  case search => exact exec_of_fixed hs (ruleOf_characterSearch (by simpa using hi) _ _)
  case classSearch => exact exec_of_fixed hs (ruleOf_characterClassSearch (by simpa using hi) _ _)
end

section
/-! SUPPORT. The floating rows, whose one cell is `tbd` (R450). -/

namespace Sys2Proof.Machine

open Sys2Proof

/-- In the table, a floating row has one cell, and it is `tbd` without a condition. -/
theorem cellsOf_floating : ∀ i ∈ Family.rows .floating, cellsOf i = [tbdOnlyCell .always] := by
  decide

/-- The rule of a floating row asks for the cost that is supplied for the row, and for nothing else (R450). -/
theorem ruleOf_floating {i : Instr} (h : i ∈ Family.rows .floating) (p : Params) (f : Facts) :
    ruleOf i p f = tbdCell i p f :=
  ruleOf_of_singleCell (cellsOf_floating i h) p f

end Sys2Proof.Machine
end

section
/-! SUPPORT. The statement about the floating rows, settled. -/

open Sys2Proof Sys2Proof.Machine

/-- Settles O24: the family is the list of the 61 rows, and each of them draws from what is supplied for it or is refused. -/
theorem floatingCost : Obligations.FloatingCost := by
  refine ⟨fun i => Iff.rfl, fun s e hs i hi => ?_⟩
  have hrule := ruleOf_floating hi s.params e.facts
  refine ⟨fun lo up hsup hle => ?supplied, fun hsup => ?refused⟩
  case supplied => exact exec_of_ranged hs hle (by rw [hrule, tbdCell_of_supplied hsup])
  case refused => rw [exec_ready hs, hrule, tbdCell_of_not_supplied hsup, applyCharge_refuse]
end

section
/-! SUPPORT. What a step does with the entry at `pos`, said once by the charge of its event (R703, R705), and when there is no entry
to consume (R704). -/

namespace Sys2Proof.Machine

open Sys2Proof

/-- There is an entry to consume exactly when nothing is refused and the trace is not exhausted (R703). -/
theorem exists_ready_iff {s : State} : (∃ e, s.Ready e) ↔ s.refused = none ∧ s.pos < s.trace.length :=
  ⟨fun ⟨_, hs⟩ => ⟨hs.notRefused, hs.pos_lt_length⟩, fun ⟨href, hpos⟩ => ⟨_, href, List.getElem?_eq_getElem hpos⟩⟩

/-- The first state of a run is ready for the first entry of its trace (R702). -/
theorem ready_start (p : Params) (e : Entry) (es : List Entry) : (State.start p (e :: es)).Ready e := ⟨rfl, rfl⟩

/-- At the end of the trace there is no step (R703, R704). -/
theorem step_of_traceEnded {s : State} (href : s.refused = none) (hlen : s.trace.length ≤ s.pos) :
    step s = .fault .traceEnded := by
  simp only [step, runEntry, href, List.getElem?_eq_none hlen]

/-- Only bytes that the decoder rejects are no instruction (log entry 7). -/
theorem fetch_undecodable {src : Source} {why : DecodeError} (h : fetch src = .undecodable why) :
    ∃ bytes limit, src = .code bytes limit ∧ decode bytes limit = .error why := by
  cases src with
  | name m =>
    simp only [fetch] at h
    split at h <;> cases h
  | code bytes limit =>
    refine ⟨bytes, limit, rfl, ?_⟩
    simp only [fetch] at h
    split at h <;> cases h <;> assumption

/-- Only bytes that are no instruction have no cost rule. -/
theorem eventCharge_eq_none {p : Params} {ev : Event} (h : eventCharge p ev = none) :
    ∃ src f why, ev = .instr src f ∧ fetch src = .undecodable why := by
  cases ev with
  | hwInterrupt | swInterrupt | exception => cases h
  | instr src f =>
    cases hsrc : fetch src with
    | row i | noRow m => simp [eventCharge, hsrc] at h
    | undecodable why => exact ⟨src, f, why, rfl, hsrc⟩

section
variable {s : State} {e : Entry}

/-- A step at an event that has a charge applies it, with the entry's pick (R703, R705). -/
theorem step_of_eventCharge {ch : Charge} (hs : s.Ready e) (h : eventCharge s.params e.event = some ch) :
    step s = applyCharge e.pick s ch := by
  obtain ⟨ev, pick⟩ := e
  cases ev with
  | hwInterrupt | swInterrupt | exception =>
    cases h
    exact (runEntry_ready hs _).trans (runRule_ready hs _)
  | instr src f =>
    rw [step_instr hs, stepInstr]
    cases hsrc : fetch src with
    | row i =>
      simp only [eventCharge, hsrc, Option.some.injEq] at h
      subst h
      exact exec_ready hs i
    | noRow m =>
      simp only [eventCharge, hsrc, Option.some.injEq] at h
      subst h
      rfl
    | undecodable why => simp [eventCharge, hsrc] at h

/-- A step at bytes that are no instruction stops by name (log entry 7). -/
theorem step_of_undecodable {src : Source} {f : Facts} {why : DecodeError} (hs : s.Ready e) (he : e.event = .instr src f)
    (h : fetch src = .undecodable why) : step s = .refused (.undecodable why) := by
  obtain ⟨ev, pick⟩ := e
  cases he
  simp only [step_instr hs, stepInstr, h]

/-- An instruction event whose row was found runs that row's instruction (R703). -/
theorem step_of_fetch_row {src : Source} {f : Facts} {pick : Cost} {i : Instr} (hs : s.Ready ⟨.instr src f, pick⟩)
    (h : fetch src = .row i) : step s = exec i s := by
  simp only [step_instr hs, stepInstr, h]

end

/-! ### What a charge answers -/

/-- A draw without a member stops the run (log entry 6). -/
theorem applyCharge_emptyDraw {lo hi : Cost} (h : ¬ lo.le hi) (pick : Cost) (s : State) (extra : Cost) :
    applyCharge pick s (.draw lo hi extra) = .fault (.emptyDraw lo hi) := by
  simp only [applyCharge, if_neg h]

/-- A row that draws from an interval with its ends out of order has it from the supplied ones (log entry 6). -/
theorem tbdCostOf_of_draw_not_le {i : Instr} {p : Params} {f : Facts} {lo hi extra : Cost}
    (h : ruleOf i p f = .draw lo hi extra) (hle : ¬ lo.le hi) : tbdCostOf p i = some (lo, hi) := by
  obtain ⟨cell, hfind, hrule⟩ := ruleOf_eq_chargeOfCell i p f
  have hends := (cellsOf_endsInOrder i cell (List.mem_of_find?_eq_some hfind)).at_le f
  rw [hrule, chargeOfCell] at h
  cases hkind : cell.kind with
  | fixed | range =>
    rw [hkind] at h
    cases h
    exact absurd hends hle
  | exception =>
    rw [hkind] at h
    cases h
    exact absurd (by decide) hle
  | tbd =>
    rw [hkind] at h
    rw [← tbdCell_interval i p f, Charge.interval_eq_some_iff]
    exact ⟨extra, h⟩

/-- The same for the events of a trace: an interrupt's or exception's interval is in order. -/
theorem tbdCostOf_of_eventCharge_not_le {p : Params} {ev : Event} {lo hi extra : Cost}
    (h : eventCharge p ev = some (.draw lo hi extra)) (hle : ¬ lo.le hi) : ∃ row, tbdCostOf p row = some (lo, hi) := by
  cases ev with
  | hwInterrupt | swInterrupt | exception =>
    cases h
    exact absurd (by decide) hle
  | instr src f =>
    cases hsrc : fetch src with
    | row i =>
      simp only [eventCharge, hsrc, Option.some.injEq] at h
      exact ⟨i, tbdCostOf_of_draw_not_le h hle⟩
    | noRow m | undecodable why => simp [eventCharge, hsrc] at h

end Sys2Proof.Machine
end

section
/-! SUPPORT. The bounds of R706: the least and the greatest cost of an entry, their sums over the entries consumed, and an invariant
carried along a run. -/

namespace Sys2Proof.Machine

open Sys2Proof

section
variable {p : Params} {e : Entry} {lo hi extra : Cost}

theorem leastOf_of_draw (h : eventCharge p e.event = some (.draw lo hi extra)) : leastOf p e = lo.add extra := by
  simp only [leastOf, h, Charge.least]

theorem greatestOf_of_draw (h : eventCharge p e.event = some (.draw lo hi extra)) : greatestOf p e = hi.add extra := by
  simp only [greatestOf, h, Charge.greatest]

end

theorem leastSum_concat (p : Params) (es : List Entry) (e : Entry) :
    leastSum p (es ++ [e]) = (leastSum p es).add (leastOf p e) := by
  simp [leastSum, Cost.sum_append]

theorem greatestSum_concat (p : Params) (es : List Entry) (e : Entry) :
    greatestSum p (es ++ [e]) = (greatestSum p es).add (greatestOf p e) := by
  simp [greatestSum, Cost.sum_append]

/-- After the entry at `pos` is consumed, it is the last of those consumed. -/
theorem State.Ready.take_succ {s : State} {e : Entry} (h : s.Ready e) :
    s.trace.take (s.pos + 1) = s.trace.take s.pos ++ [e] := by
  rw [List.take_add_one, h.atPos, Option.toList_some]

/-- Charging the entry at `pos` a cost between its least and its greatest keeps the bounds. -/
theorem State.Bounded.charge {s : State} {e : Entry} {v : Cost} (hb : s.Bounded) (hs : s.Ready e)
    (hv : Cost.InDraw (leastOf s.params e) (greatestOf s.params e) v) : (s.charge v).Bounded where
  inTrace := hs.pos_lt_length
  above := by
    simp only [State.charge_params, State.charge_trace, State.charge_pos, State.charge_acc, hs.take_succ, leastSum_concat]
    exact Cost.add_le_add hb.above hv.1
  below := by
    simp only [State.charge_params, State.charge_trace, State.charge_pos, State.charge_acc, hs.take_succ, greatestSum_concat]
    exact Cost.add_le_add hb.below hv.2

/-- A refusal consumes no entry and charges nothing. -/
theorem State.Bounded.refuse {s : State} (hb : s.Bounded) (why : Reason) : (s.refuse why).Bounded :=
  ⟨hb.inTrace, hb.above, hb.below⟩

/-- Every step keeps the bounds: what it charges is a member of the interval of the entry at `pos`, with the extra cost (R11). -/
theorem State.Bounded.step {s t : State} (hb : s.Bounded) (h : Machine.step s = .next t) : t.Bounded := by
  obtain ⟨e, hs, ⟨lo, hi, extra, hch, hle, rfl⟩ | ⟨why, -, rfl⟩⟩ := step_next_effect h
  · obtain ⟨hlo, hhi⟩ := Cost.clamp_inDraw hle e.pick
    refine hb.charge hs ?_
    rw [leastOf_of_draw hch, greatestOf_of_draw hch]
    exact ⟨Cost.add_le_add hlo (Cost.le_refl _), Cost.add_le_add hhi (Cost.le_refl _)⟩
  · exact hb.refuse why

/-- The first state of a run has consumed no entry. -/
theorem bounded_start (p : Params) (trace : List Entry) : (State.start p trace).Bounded :=
  ⟨Nat.zero_le _, Cost.le_refl _, Cost.le_refl _⟩

/-- What every step keeps, a run keeps. -/
theorem run_keeps {P : State → Prop} (hstep : ∀ s t, P s → step s = .next t → P t) {k : Nat} {s t : State} (hs : P s)
    (h : Sys2Proof.core.run k s = .next t) : P t := by
  induction k generalizing s with
  | zero =>
    cases h
    exact hs
  | succ k ih =>
    obtain ⟨u, hu, h⟩ := run_succ_next h
    exact ih (hstep s u hs hu) h

end Sys2Proof.Machine
end

section
/-! SUPPORT. The statements about the bounds of a run, a step as the charge of its event, and the end of a run, settled. -/

open Sys2Proof Sys2Proof.Machine

/-- Settles O57: a charge adds to `acc` a member of the interval of the entry consumed, and a refusal adds nothing. -/
theorem boundedKept : Obligations.BoundedKept :=
  fun _ _ hb h => hb.step h

/-- Settles O56: the reset state is the first state of a run too, with the empty trace. -/
theorem boundedAtReset : Obligations.BoundedAtReset :=
  ⟨bounded_start {} [], bounded_start⟩

/-- Settles O37: the events with a cost rule step by it, and the only events without one are bytes that are no instruction. -/
theorem stepIsCharge : Obligations.StepIsCharge := by
  intro s e hs
  split
  case h_1 ch hch => exact step_of_eventCharge hs hch
  case h_2 hnone =>
    obtain ⟨src, f, why, hev, hsrc⟩ := eventCharge_eq_none hnone
    exact ⟨why, step_of_undecodable hs hev hsrc⟩

/-- Settles O36: bytes that decode, and a name of a row, are fetched as that row. -/
theorem stepRunsDecodedInstruction : Obligations.StepRunsDecodedInstruction :=
  ⟨fun _ _ _ _ _ _ _ hs hdecode _ => step_of_fetch_row hs (fetch_code_row hdecode),
    fun _ _ _ _ _ hs hname => step_of_fetch_row hs (fetch_name_row hname)⟩

/-- Settles O38: the word placed is the entry that the step is ready for, and its bytes decode to the instruction. -/
theorem fetchedWordRuns : Obligations.FetchedWordRuns := by
  intro s nbits w i h
  unfold decodeTableWord at h
  split at h <;> cases h
  rename_i hdecode
  exact step_of_fetch_row (withFetchWord_ready s nbits w) (fetch_code_row hdecode)

/-- Settles O42: a step that finds an entry answers by the charge of its event; what stops it is a draw without a member or bytes that
the decoder rejects. -/
theorem endedRunHasNoStep : Obligations.EndedRunHasNoStep := by
  refine ⟨fun s => step_of_traceEnded, fun s => ?ended, fun s e hs => ?answers⟩
  case ended =>
    rw [exists_ready_iff]
    cases href : s.refused <;> simp [State.ended, href]
  case answers =>
    cases hch : eventCharge s.params e.event with
    | none =>
      obtain ⟨src, f, why, hev, hsrc⟩ := eventCharge_eq_none hch
      obtain ⟨bytes, limit, rfl, hdecode⟩ := fetch_undecodable hsrc
      exact .inr (.inr ⟨bytes, limit, f, why, hev, hdecode, step_of_undecodable hs hev hsrc⟩)
    | some ch =>
      rw [step_of_eventCharge hs hch]
      cases ch with
      | refuse why => exact .inl ⟨_, applyCharge_refuse _ _ _⟩
      | draw lo hi extra =>
        by_cases hle : lo.le hi
        · exact .inl ⟨_, applyCharge_draw hle _ _ _⟩
        · obtain ⟨row, hrow⟩ := tbdCostOf_of_eventCharge_not_le hch hle
          exact .inr (.inl ⟨row, lo, hi, hrow, hle, applyCharge_emptyDraw hle _ _ _⟩)
end

section
/-! SUPPORT. A state with a cost added to `acc`: no operation of a step reads what is added (R706). -/

namespace Sys2Proof.Machine

open Sys2Proof

/-- The state with a cost added to what was accumulated so far. -/
def State.addAcc (a : Cost) (s : State) : State := { s with acc := a.add s.acc }

/-- An outcome with a cost added to `acc` of the next state, if there is one. -/
def outcomeAddAcc (a : Cost) : Host.Outcome State Fault Refusal → Host.Outcome State Fault Refusal
  | .next t => .next (t.addAcc a)
  | .fault why => .fault why
  | .refused why => .refused why

theorem State.addAcc_charge (a v : Cost) (s : State) : (s.addAcc a).charge v = (s.charge v).addAcc a := by
  simp only [State.addAcc, State.charge, Cost.add_assoc]

/-- A charge or a refusal reads nothing of `acc`. -/
theorem applyCharge_addAcc (a pick : Cost) (s : State) (ch : Charge) :
    applyCharge pick (s.addAcc a) ch = outcomeAddAcc a (applyCharge pick s ch) := by
  cases ch with
  | refuse why => rfl
  | draw lo hi extra =>
    by_cases hle : lo.le hi
    · simp only [applyCharge_draw hle, outcomeAddAcc, State.addAcc_charge]
    · simp only [applyCharge_emptyDraw hle, outcomeAddAcc]

/-- A step reads nothing of `acc` (R706). -/
theorem step_addAcc (a : Cost) (s : State) : step (s.addAcc a) = outcomeAddAcc a (step s) := by
  by_cases hready : ∃ e, s.Ready e
  · obtain ⟨e, hs⟩ := hready
    have hs' : (s.addAcc a).Ready e := ⟨hs.notRefused, hs.atPos⟩
    cases hch : eventCharge s.params e.event with
    | some ch => rw [step_of_eventCharge hs hch, step_of_eventCharge hs' hch, applyCharge_addAcc]
    | none =>
      obtain ⟨src, f, why, hev, hsrc⟩ := eventCharge_eq_none hch
      rw [step_of_undecodable hs hev hsrc, step_of_undecodable hs' hev hsrc, outcomeAddAcc]
  · cases href : s.refused with
    | some why => rw [step_of_refused href, step_of_refused (s := s.addAcc a) href, outcomeAddAcc]
    | none =>
      have hlen : s.trace.length ≤ s.pos := Nat.le_of_not_lt fun hpos => hready (exists_ready_iff.mpr ⟨href, hpos⟩)
      rw [step_of_traceEnded href hlen, step_of_traceEnded (s := s.addAcc a) href hlen, outcomeAddAcc]

end Sys2Proof.Machine
end

section
/-! SUPPORT. Runs: how far a run goes (R35, R704), and what a run does whose entries are all charged (R706). -/

namespace Sys2Proof

/-- A choice at or below the least member of a draw is charged the least one (log entry 4). -/
theorem Cost.clamp_of_le_lo {lo hi pick : Cost} (h : lo.le hi) (hpick : pick.le lo) : Cost.clamp lo hi pick = lo := by
  obtain ⟨_, _, _, _, _, _⟩ := h
  obtain ⟨_, _, _, _, _, _⟩ := hpick
  apply Cost.eq_of_components <;> simp only [Cost.clamp] <;> omega

/-- A choice at or above the greatest member of a draw is charged the greatest one (log entry 4). -/
theorem Cost.clamp_of_hi_le {lo hi pick : Cost} (h : lo.le hi) (hpick : hi.le pick) : Cost.clamp lo hi pick = hi := by
  obtain ⟨_, _, _, _, _, _⟩ := h
  obtain ⟨_, _, _, _, _, _⟩ := hpick
  apply Cost.eq_of_components <;> simp only [Cost.clamp] <;> omega

theorem Cost.zero_le (a : Cost) : Cost.le {} a :=
  ⟨Nat.zero_le _, Nat.zero_le _, Nat.zero_le _, Nat.zero_le _, Nat.zero_le _, Nat.zero_le _⟩

end Sys2Proof

namespace Sys2Proof.Machine

open Sys2Proof

/-! ### How far a run goes -/

section
variable {s t : State} {k : Nat}

/-- A run that ends without a refusal began without one (R31). -/
theorem unrefused_of_run (h : Sys2Proof.core.run k s = .next t) (ht : t.refused = none) : s.refused = none := by
  cases href : s.refused with
  | none => rfl
  | some why =>
    rw [run_of_refused href h, href] at ht
    cases ht

/-- No run writes the parameters or the trace (R32). -/
theorem run_frame (h : Sys2Proof.core.run k s = .next t) : t.params = s.params ∧ t.trace = s.trace := by
  refine run_keeps (P := fun u => u.params = s.params ∧ u.trace = s.trace) (fun u v hu hstep => ?_) ⟨rfl, rfl⟩ h
  obtain ⟨e, -, ⟨lo, hi, extra, -, -, rfl⟩ | ⟨why, -, rfl⟩⟩ := step_next_effect hstep <;> exact hu

/-- A run that ends without a refusal has consumed one entry in each step (R35). -/
theorem run_pos (h : Sys2Proof.core.run k s = .next t) (ht : t.refused = none) : t.pos = s.pos + k := by
  induction k generalizing s with
  | zero =>
    cases h
    rfl
  | succ k ih =>
    obtain ⟨u, hstep, h⟩ := run_succ_next h
    have hu := unrefused_of_run h ht
    obtain ⟨e, hs, ⟨lo, hi, extra, -, -, rfl⟩ | ⟨why, -, rfl⟩⟩ := step_next_effect hstep
    · rw [ih h, State.charge_pos, Nat.add_assoc, Nat.add_comm 1]
    · cases hu

/-- A run has no more steps than there are entries left: a charge consumes one, and after a refusal there is no step (R704, R705). -/
theorem run_length_le (h : Sys2Proof.core.run k s = .next t) : k ≤ s.trace.length - s.pos := by
  induction k generalizing s with
  | zero => exact Nat.zero_le _
  | succ k ih =>
    obtain ⟨u, hstep, h⟩ := run_succ_next h
    obtain ⟨e, hs, ⟨lo, hi, extra, -, -, rfl⟩ | ⟨why, -, rfl⟩⟩ := step_next_effect hstep
    · have hrest := ih h
      have hpos := hs.pos_lt_length
      simp only [State.charge_trace, State.charge_pos] at hrest
      omega
    · cases k with
      | zero => exact Nat.sub_pos_of_lt hs.pos_lt_length
      | succ k =>
        obtain ⟨v, hstep', -⟩ := run_succ_next h
        rw [step_of_refused (State.refuse_refused s why)] at hstep'
        cases hstep'

end

/-- A run from the start that ends without a refusal costs between the sums of the least and of the greatest costs of the entries
consumed (R706). -/
theorem run_bounds {p : Params} {trace : List Entry} {k : Nat} {t : State}
    (h : Sys2Proof.core.run k (State.start p trace) = .next t) (ht : t.refused = none) :
    t.pos = k ∧ (leastSum p (trace.take k)).le t.acc ∧ t.acc.le (greatestSum p (trace.take k)) := by
  have hpos : t.pos = k := (run_pos h ht).trans (Nat.zero_add k)
  obtain ⟨hparams, htrace⟩ := run_frame h
  obtain ⟨-, habove, hbelow⟩ := run_keeps (fun _ _ => State.Bounded.step) (bounded_start p trace) h
  rw [hparams, htrace, hpos] at habove hbelow
  exact ⟨hpos, habove, hbelow⟩

/-! ### What a run does whose entries are all charged -/

/-- The cost that a step charges for an entry: the member of its draw that the entry picks, and the extra cost; 0 for an event that is
not charged. -/
def chargedOf (p : Params) (e : Entry) : Cost :=
  match eventCharge p e.event with
  | some (.draw lo hi extra) => (Cost.clamp lo hi e.pick).add extra
  | some (.refuse _) => {}
  | none => {}

theorem chargedOf_of_draw {p : Params} {e : Entry} {lo hi extra : Cost}
    (h : eventCharge p e.event = some (.draw lo hi extra)) : chargedOf p e = (Cost.clamp lo hi e.pick).add extra := by
  simp only [chargedOf, h]

/-- A state is ready for one entry only. -/
theorem State.Ready.unique {s : State} {e e' : Entry} (h : s.Ready e) (h' : s.Ready e') : e = e' :=
  Option.some.inj (h.atPos.symm.trans h'.atPos)

/-- A step ends without a refusal exactly when it charges the entry at `pos`. -/
theorem step_unrefused_iff {s t : State} {e : Entry} (hs : s.Ready e) :
    step s = .next t ∧ t.refused = none ↔ Chargeable s.params e ∧ t = s.charge (chargedOf s.params e) := by
  constructor
  · rintro ⟨hstep, ht⟩
    obtain ⟨e', hs', ⟨lo, hi, extra, hch, hle, rfl⟩ | ⟨why, -, rfl⟩⟩ := step_next_effect hstep
    · obtain rfl := hs.unique hs'
      exact ⟨⟨lo, hi, extra, hch, hle⟩, by rw [chargedOf_of_draw hch]⟩
    · cases ht
  · rintro ⟨⟨lo, hi, extra, hch, hle⟩, rfl⟩
    rw [step_of_eventCharge hs hch, applyCharge_draw hle, chargedOf_of_draw hch]
    exact ⟨rfl, hs.notRefused⟩

/-- The state after the given entries are charged one after the other. -/
def State.chargeAll (s : State) (es : List Entry) : State :=
  { s with acc := s.acc.add (Cost.sum (es.map (chargedOf s.params))), pos := s.pos + es.length }

theorem State.chargeAll_nil (s : State) : s = s.chargeAll [] := rfl

theorem State.chargeAll_cons (s : State) (e : Entry) (es : List Entry) :
    s.chargeAll (e :: es) = (s.charge (chargedOf s.params e)).chargeAll es := by
  simp only [State.chargeAll, State.charge, List.map_cons, Cost.sum_cons, Cost.add_assoc, List.length_cons, Nat.add_assoc,
    Nat.add_comm 1]

/-- A run over the next entries of the trace ends without a refusal exactly when each of them is charged. -/
theorem run_unrefused_iff {es rest : List Entry} {s t : State} (href : s.refused = none)
    (hdrop : s.trace.drop s.pos = es ++ rest) :
    Sys2Proof.core.run es.length s = .next t ∧ t.refused = none ↔
      (∀ e ∈ es, Chargeable s.params e) ∧ t = s.chargeAll es := by
  induction es generalizing s with
  | nil =>
    constructor
    · rintro ⟨hrun, -⟩
      cases hrun
      exact ⟨List.forall_mem_nil _, State.chargeAll_nil _⟩
    · rintro ⟨-, rfl⟩
      exact ⟨rfl, href⟩
  | cons e es ih =>
    have hs : s.Ready e := ⟨href, by rw [← List.head?_drop, hdrop]; rfl⟩
    have hrest : (s.charge (chargedOf s.params e)).trace.drop (s.charge (chargedOf s.params e)).pos = es ++ rest := by
      rw [State.charge_trace, State.charge_pos, ← List.tail_drop, hdrop]
      rfl
    have ih := ih (s := s.charge (chargedOf s.params e)) href hrest
    rw [State.charge_params] at ih
    rw [List.forall_mem_cons, State.chargeAll_cons, and_assoc, ← ih]
    constructor
    · rintro ⟨hrun, ht⟩
      obtain ⟨u, hstep, hrun⟩ := run_succ_next hrun
      obtain ⟨hche, rfl⟩ := (step_unrefused_iff hs).mp ⟨hstep, unrefused_of_run hrun ht⟩
      exact ⟨hche, hrun, ht⟩
    · rintro ⟨hche, hrun, ht⟩
      have hstep := ((step_unrefused_iff hs).mpr ⟨hche, rfl⟩).1
      exact ⟨(run_succ_of_next hstep _).trans hrun, ht⟩

/-- The whole run of a trace ends without a refusal exactly when each of its entries is charged. -/
theorem run_start_iff {p : Params} {es : List Entry} {t : State} :
    Sys2Proof.core.run es.length (State.start p es) = .next t ∧ t.refused = none ↔
      (∀ e ∈ es, Chargeable p e) ∧ t = (State.start p es).chargeAll es :=
  run_unrefused_iff (rest := []) rfl (List.append_nil es).symm

theorem chargeAll_start_acc (p : Params) (es : List Entry) :
    ((State.start p es).chargeAll es).acc = Cost.sum (es.map (chargedOf p)) :=
  Cost.zero_add _

theorem chargeAll_start_pos (p : Params) (es : List Entry) : ((State.start p es).chargeAll es).pos = es.length :=
  Nat.zero_add _

/-! ### Choices that attain the bounds -/

/-- The entries with other choices in their draws. -/
def repick (pick : Entry → Cost) (es : List Entry) : List Entry := es.map fun e => { e with pick := pick e }

theorem eventsOf_repick (pick : Entry → Cost) (es : List Entry) : eventsOf (repick pick es) = eventsOf es := by
  simp [eventsOf, repick]

/-- The choice of nothing at all is charged the least cost. -/
theorem chargedOf_pick_zero {p : Params} {e : Entry} (h : Chargeable p e) :
    chargedOf p { e with pick := {} } = leastOf p e := by
  obtain ⟨lo, hi, extra, hch, hle⟩ := h
  rw [leastOf_of_draw hch, chargedOf_of_draw (e := { e with pick := {} }) hch, Cost.clamp_of_le_lo hle (Cost.zero_le lo)]

/-- The choice of the greatest cost, which the extra cost only puts further up, is charged the greatest cost. -/
theorem chargedOf_pick_greatest {p : Params} {e : Entry} (h : Chargeable p e) :
    chargedOf p { e with pick := greatestOf p e } = greatestOf p e := by
  obtain ⟨lo, hi, extra, hch, hle⟩ := h
  have hpick : hi.le (greatestOf p e) := greatestOf_of_draw hch ▸ Cost.le_add hi extra
  rw [chargedOf_of_draw (e := { e with pick := greatestOf p e }) hch, Cost.clamp_of_hi_le hle hpick, greatestOf_of_draw hch]

/-- With other choices in its draws a trace whose events are all charged costs the sum of what those choices are charged. -/
theorem run_repick {p : Params} {pick cost : Entry → Cost} {es : List Entry} (hch : ∀ e ∈ es, Chargeable p e)
    (hcost : ∀ e ∈ es, chargedOf p { e with pick := pick e } = cost e) :
    ∃ t, Sys2Proof.core.run es.length (State.start p (repick pick es)) = .next t ∧ t.refused = none ∧ t.pos = es.length ∧
      t.acc = Cost.sum (es.map cost) := by
  have hlen : (repick pick es).length = es.length := List.length_map _
  have hch' : ∀ e ∈ repick pick es, Chargeable p e := List.forall_mem_map.mpr hch
  obtain ⟨hrun, href⟩ := run_start_iff.mpr ⟨hch', rfl⟩
  refine ⟨_, hlen ▸ hrun, href, hlen ▸ chargeAll_start_pos p _, ?_⟩
  rw [chargeAll_start_acc, repick, List.map_map]
  exact congrArg Cost.sum (List.map_congr_left hcost)

end Sys2Proof.Machine
end

section
/-! SUPPORT. The statements about runs, settled. -/

open Sys2Proof Sys2Proof.Machine

/-- Settles O55: with a cost added to `acc` of the state, a step answers what it answered, with that cost added to `acc`. -/
theorem stepReadsNothingOfAcc : Obligations.StepReadsNothingOfAcc := by
  intro s a
  have h := step_addAcc a s
  split
  all_goals
    rename_i hstep
    exact h.trans (congrArg (outcomeAddAcc a) hstep)

/-- Settles O60: one step more than there are entries left is more than any run has. -/
theorem runsEnd : Obligations.RunsEnd :=
  fun _ _ h => Nat.not_succ_le_self _ (run_length_le h)

/-- Settles O58: the bounds are kept from the start of the run, and the least or the greatest choice in every draw attains them. -/
theorem runBounds : Obligations.RunBounds := by
  refine ⟨fun p trace k t => run_bounds, fun p trace hch => ⟨?least, ?greatest⟩⟩
  case least => exact ⟨_, eventsOf_repick (fun _ => {}) trace, run_repick hch fun e he => chargedOf_pick_zero (hch e he)⟩
  case greatest =>
    exact ⟨_, eventsOf_repick (greatestOf p) trace, run_repick hch fun e he => chargedOf_pick_greatest (hch e he)⟩

/-- Settles O59: a whole run without a refusal charges each of its entries, and the sum over both traces is the sum of the two sums. -/
theorem concatenatedRuns : Obligations.ConcatenatedRuns := by
  intro p xs ys a b hxs ha hys hb
  obtain ⟨hchxs, rfl⟩ := run_start_iff.mp ⟨hxs, ha⟩
  obtain ⟨hchys, rfl⟩ := run_start_iff.mp ⟨hys, hb⟩
  obtain ⟨hrun, href⟩ := run_start_iff.mpr ⟨List.forall_mem_append.mpr ⟨hchxs, hchys⟩, rfl⟩
  rw [List.length_append] at hrun
  refine ⟨_, hrun, href, (chargeAll_start_pos p _).trans List.length_append, ?_⟩
  simp only [chargeAll_start_acc, List.map_append, Cost.sum_append]
end

section
/-! SUPPORT. When a row is refused (R450, R705): its cell is `tbd` and nothing is supplied for it. -/

namespace Sys2Proof.Machine

open Sys2Proof

/-- The floating rows stand in the list of their family, and no other row does. -/
theorem family_eq_floating_iff {i : Instr} : i.family = .floating ↔ i ∈ Family.rows .floating := by
  refine ⟨fun h => h ▸ mem_family_rows i, fun h => ?_⟩
  revert i
  decide

/-- The rows whose cell is `tbd`: the floating rows, and the long multiplies with an FPA (R450, R202). -/
theorem isTbd_iff {p : Params} {i : Instr} :
    isTbd p i = true ↔ i ∈ Family.rows .floating ∨ ((i = .mull2 ∨ i = .mull3) ∧ p.hasFpa = true) := by
  simp only [isTbd, Bool.or_eq_true, Bool.and_eq_true, beq_iff_eq, family_eq_floating_iff]

/-- The rule of a row whose cell is `tbd` asks for the cost that is supplied for the row. -/
theorem ruleOf_of_isTbd {p : Params} {i : Instr} (h : isTbd p i = true) (f : Facts) : ruleOf i p f = tbdCell i p f := by
  rcases isTbd_iff.mp h with hfloating | ⟨hrow, hfpa⟩
  · exact ruleOf_floating hfloating p f
  · rw [ruleOf_longMultiply hrow, if_pos hfpa]

/-- A row is refused exactly when its cell is `tbd` and nothing is supplied for it, and the reason names the row (R705). -/
theorem ruleOf_eq_refuse_iff {p : Params} {i : Instr} {f : Facts} {why : Reason} :
    ruleOf i p f = .refuse why ↔ (isTbd p i = true ∧ tbdCostOf p i = none) ∧ why = .tbd i := by
  cases htbd : isTbd p i with
  | false =>
    obtain ⟨cell, -, -, ⟨-, hrule⟩ | ⟨-, hrule⟩⟩ := ruleOf_of_not_isTbd htbd f <;> simp [hrule, exceptionRule]
  | true =>
    rw [ruleOf_of_isTbd htbd]
    cases hsup : tbdCostOf p i with
    | none => simp [tbdCell_of_not_supplied hsup, eq_comm]
    | some ends => simp [tbdCell_of_supplied hsup, ranged]

section
variable {s : State} {e : Entry} {i : Instr}

/-- A row that is refused sets `refused` under its own name (R705). -/
theorem exec_of_tbd (hs : s.Ready e) (htbd : isTbd s.params i = true) (hsup : tbdCostOf s.params i = none) :
    exec i s = .next (s.refuse (.tbd i)) := by
  rw [exec_ready hs, ruleOf_eq_refuse_iff.mpr ⟨⟨htbd, hsup⟩, rfl⟩, applyCharge_refuse]

/-- With nothing supplied at all, an instruction is refused exactly when its row's cell is `tbd`. -/
theorem exec_eq_refuse_iff (hs : s.Ready e) (hsup : s.params.tbdCost = []) :
    exec i s = .next (s.refuse (.tbd i)) ↔ isTbd s.params i = true := by
  refine ⟨fun h => ?_, fun h => exec_of_tbd hs h (by simp only [tbdCostOf, hsup, List.find?_nil, Option.map_none])⟩
  by_contra hnot
  obtain ⟨lo, hi, extra, -, -, hexec⟩ := exec_of_not_isTbd hs (Bool.eq_false_iff.mpr hnot)
  have hstates := Host.Outcome.next.inj (hexec.symm.trans h)
  have hrefused : s.refused = some (.tbd i) := congrArg State.refused hstates
  rw [hs.notRefused] at hrefused
  cases hrefused

end

/-- No row stands in the table twice: no name does. -/
theorem allRows_nodup : allRows.Nodup := by
  obtain ⟨-, hdisjoint⟩ := List.nodup_flatMap.mp names_nodup
  refine hdisjoint.imp fun {i j} hij heq => ?_
  subst heq
  exact hij List.mem_cons_self List.mem_cons_self

/-- The table has 263 rows, counted family by family. -/
theorem length_allRows : allRows.length = 263 := by
  simp only [allRows, List.length_append]
  rfl

end Sys2Proof.Machine
end

section
/-! SUPPORT. The statements about every instruction and about the reset state, settled. -/

open Sys2Proof Sys2Proof.Machine

/-- Settles O26: every row charges a draw that is in order, or is refused because its cell is `tbd` and nothing is supplied. -/
theorem everyInstructionSteps : Obligations.EveryInstructionSteps := by
  refine ⟨fun s e i hs hsup => ?steps, fun s t i h => ?frame⟩
  case steps =>
    rw [exec_ready hs]
    cases hrule : ruleOf i s.params e.facts with
    | draw lo hi extra => exact ⟨_, applyCharge_draw (ruleOf_draw_le hsup hrule) _ _ _⟩
    | refuse why => exact ⟨_, applyCharge_refuse _ _ _⟩
  case frame =>
    obtain ⟨e, hs, ⟨lo, hi, extra, hrule, -, rfl⟩ | ⟨why, hrule, rfl⟩⟩ := exec_next h
    · have hnot : ¬ (isTbd s.params i = true ∧ tbdCostOf s.params i = none) := fun htbd => by
        rw [ruleOf_eq_refuse_iff.mpr ⟨htbd, rfl⟩] at hrule
        cases hrule
      rw [if_neg hnot]
      exact ⟨hs.notRefused, rfl, rfl, hs.notRefused, rfl, Cost.le_add _ _⟩
    · obtain ⟨htbd, rfl⟩ := ruleOf_eq_refuse_iff.mp hrule
      rw [if_pos htbd]
      exact ⟨hs.notRefused, rfl, rfl, rfl, rfl, rfl⟩

/-- Settles O30: both ends of a row's interval carry its restarts, whatever was stepped before. -/
theorem restartOnEighteenRows : Obligations.RestartOnEighteenRows :=
  fun _ _ hs _ hp => exec_rst_of_not_isTbd hs hp

/-- Settles O43: an instruction is refused exactly when its row is one of the `tbd` rows, and these are counted in the table. -/
theorem tbdRefusals : Obligations.TbdRefusals := by
  refine ⟨fun s e i hs hsup => ⟨?rows, ?charged⟩, mem_allRows, allRows_nodup, length_allRows, rfl, rfl⟩
  case rows => rw [exec_eq_refuse_iff hs hsup, isTbd_iff, List.mem_pair]
  case charged =>
    constructor
    · rintro ⟨t, hexec, ht⟩ h
      cases hexec.symm.trans h
      cases ht
    · intro h
      rw [exec_eq_refuse_iff hs hsup] at h
      obtain ⟨t, hexec, href, -, -⟩ := exec_rst_of_not_isTbd hs (Bool.eq_false_iff.mpr h)
      exact ⟨t, hexec, href⟩

/-- Settles O1: the fields of the reset state. -/
theorem resetState : Obligations.ResetState :=
  ⟨rfl, rfl, rfl⟩

/-- Settles O2: nothing is supplied at reset, and the empty trace is exhausted. -/
theorem inputsAtReset : Obligations.InputsAtReset :=
  ⟨rfl, fun _ => rfl, rfl, step_of_traceEnded rfl (Nat.le_refl 0)⟩
end

section
/-! SUPPORT. The events that are no instruction, the runs of one and of two events, and the stack of CHMx (R600 to R607). -/

namespace Sys2Proof

/-- The members of the draw of an exception, component by component (R602). -/
theorem Cost.inDraw_exception_iff {v : Cost} : Cost.InDraw { c := 28, r := 2, w := 2 } { c := 50, r := 2, w := 8 } v ↔
    28 ≤ v.c ∧ v.c ≤ 50 ∧ v.r = 2 ∧ 2 ≤ v.w ∧ v.w ≤ 8 ∧ v.rst = 0 ∧ v.pfl = 0 ∧ v.mpr = 0 := by
  simp only [Cost.InDraw, Cost.le]
  omega

end Sys2Proof

namespace Sys2Proof.Machine

open Sys2Proof

/-! ### Events -/

/-- A step at an event that draws charges a member of the draw, the picked one if it is one (R11). -/
theorem step_chargesDraw {s : State} {e : Entry} {lo hi extra : Cost} (hs : s.Ready e)
    (h : eventCharge s.params e.event = some (.draw lo hi extra)) (hle : lo.le hi) :
    ChargesDraw (step s) s e.pick lo hi extra :=
  chargesDraw_of_eq hle (step_of_eventCharge hs h)

/-- A step at an event with one possible cost charges it, whatever the pick. -/
theorem step_charge {s : State} {e : Entry} {v extra : Cost} (hs : s.Ready e)
    (h : eventCharge s.params e.event = some (.draw v v extra)) : step s = .next (s.charge (v.add extra)) := by
  rw [step_of_eventCharge hs h, applyCharge_fixed]

/-- An event that names a row by its mnemonic has the row's charge (R703). -/
theorem eventCharge_name (i : Instr) (p : Params) (f : Facts) :
    eventCharge p (.instr (.name i.name) f) = some (ruleOf i p f) :=
  eventCharge_of_fetch_row (fetch_name_row (rowOf_eq_some_iff.mpr List.mem_cons_self)) p f

/-! ### Short runs -/

/-- The whole run of a trace whose entries are all charged costs between the sums of their least and their greatest costs (R706). -/
theorem run_inDraw {p : Params} {es : List Entry} (hch : ∀ e ∈ es, Chargeable p e) :
    ∃ t, Sys2Proof.core.run es.length (State.start p es) = .next t ∧
      Cost.InDraw (leastSum p es) (greatestSum p es) t.acc := by
  obtain ⟨hrun, href⟩ := run_start_iff.mpr ⟨hch, rfl⟩
  obtain ⟨-, hbounds⟩ := run_bounds hrun href
  rw [List.take_length] at hbounds
  exact ⟨_, hrun, hbounds⟩

section
variable {p : Params} {ev ev' : Event} {lo hi extra lo' hi' extra' : Cost}

/-- The run of one event that draws. -/
theorem run_one_inDraw (h : eventCharge p ev = some (.draw lo hi extra)) (hle : lo.le hi) (pick : Cost) :
    ∃ t, Sys2Proof.core.run 1 (State.start p [⟨ev, pick⟩]) = .next t ∧
      Cost.InDraw (lo.add extra) (hi.add extra) t.acc := by
  have hch : ∀ e ∈ [(⟨ev, pick⟩ : Entry)], Chargeable p e := List.forall_mem_singleton.mpr ⟨_, _, _, h, hle⟩
  rw [← leastOf_of_draw (e := ⟨ev, pick⟩) h, ← greatestOf_of_draw (e := ⟨ev, pick⟩) h]
  exact run_inDraw hch

/-- The run of two events that draw. -/
theorem run_two_inDraw (h : eventCharge p ev = some (.draw lo hi extra)) (hle : lo.le hi)
    (h' : eventCharge p ev' = some (.draw lo' hi' extra')) (hle' : lo'.le hi') (pick pick' : Cost) :
    ∃ t, Sys2Proof.core.run 2 (State.start p [⟨ev, pick⟩, ⟨ev', pick'⟩]) = .next t ∧
      Cost.InDraw ((lo.add extra).add (lo'.add extra')) ((hi.add extra).add (hi'.add extra')) t.acc := by
  have hch : ∀ e ∈ [(⟨ev, pick⟩ : Entry), ⟨ev', pick'⟩], Chargeable p e :=
    List.forall_mem_cons.mpr ⟨⟨_, _, _, h, hle⟩, List.forall_mem_singleton.mpr ⟨_, _, _, h', hle'⟩⟩
  rw [← leastOf_of_draw (e := ⟨ev, pick⟩) h, ← greatestOf_of_draw (e := ⟨ev, pick⟩) h,
    ← leastOf_of_draw (e := ⟨ev', pick'⟩) h', ← greatestOf_of_draw (e := ⟨ev', pick'⟩) h']
  exact run_inDraw hch

/-- The run of one event that draws, in cycles (R10). -/
theorem run_one_eval {d : Delays} {least greatest : Nat} (h : eventCharge p ev = some (.draw lo hi extra)) (hle : lo.le hi)
    (hleast : (lo.add extra).eval d = least) (hgreatest : (hi.add extra).eval d = greatest) (pick : Cost) :
    ∃ t, Sys2Proof.core.run 1 (State.start p [⟨ev, pick⟩]) = .next t ∧
      least ≤ t.acc.eval d ∧ t.acc.eval d ≤ greatest := by
  obtain ⟨t, hrun, habove, hbelow⟩ := run_one_inDraw h hle pick
  exact ⟨t, hrun, hleast ▸ Cost.eval_le_eval d habove, hgreatest ▸ Cost.eval_le_eval d hbelow⟩

end

/-! ### The stack of CHMx -/

/-- `MINU` takes the smaller of the two numbers (R607). -/
theorem modeNumber_minu (x y : Mode) : modeNumber (minu x y) = min (modeNumber x) (modeNumber y) := by
  unfold minu
  split <;> omega

theorem chmStack_of_chmMode {i : Instr} {x : Mode} (h : chmMode i = some x) (current : Mode) :
    chmStack i current = some (minu x current) := by
  simp only [chmStack, h, Option.map_some]

/-- Only the four CHMx rows name a mode (R607). -/
theorem chmMode_isSome_iff {i : Instr} :
    (chmMode i).isSome = true ↔ i ∈ ([.chmk, .chme, .chms, .chmu] : List Instr) := by
  unfold chmMode
  split_ifs <;> simp [*]

/-- The row of CHMx, whatever its letter: the mode does not enter the cost (R607). -/
theorem cellsOf_chm :
    ∀ i ∈ ([.chme, .chmk, .chms, .chmu] : List Instr), cellsOf i = [fixedCell .always { c := 12, r := 1, w := 3 }] := by
  decide

end Sys2Proof.Machine
end

section
/-! SUPPORT. The emulated rows (R521): the cell in terms of the number of operands. -/

namespace Sys2Proof.Machine

open Sys2Proof

/-- The cycles of taking the emulation exception, by the number of operands; CVTPL's are the exception (R521). -/
def emulationCycles (i : Instr) : Nat :=
  if i = .cvtpl then 10 else if i.operandDecls.length = 3 then 9 else if i.operandDecls.length = 6 then 12 else 11

/-- Every emulated row has three to six operands, and its cell follows from their number (R521). -/
theorem cellsOf_emulated : ∀ i ∈ Family.rows .emulated, 3 ≤ i.operandDecls.length ∧ i.operandDecls.length ≤ 6 ∧
    cellsOf i = [fixedCell .always { c := emulationCycles i, r := 1, w := i.operandDecls.length + 4, pfl := 1 }] := by
  decide

end Sys2Proof.Machine
end

section
/-! SUPPORT. The statements about interrupts, exceptions, and the rows whose cells are fixed or a range, settled. -/

open Sys2Proof Sys2Proof.Machine

/-- Settles O5: an exception's charge is a draw without an extra cost. -/
theorem exceptionCost : Obligations.ExceptionCost := by
  intro s pick hs
  obtain ⟨⟨v, hv, hstep⟩, hpick⟩ := step_chargesDraw hs rfl (by decide)
  rw [← Cost.inDraw_exception_iff]
  exact ⟨⟨v, Cost.inDraw_exception_iff.mp hv, hstep⟩, hpick⟩

/-- Settles O3: the charge of a hardware interrupt has one possible cost and no extra one. -/
theorem hwInterruptCost : Obligations.HwInterruptCost := by
  have hstep : ∀ (s : State) (pick : Cost), s.Ready ⟨.hwInterrupt, pick⟩ →
      step s = .next (s.charge { c := 22, r := 3, w := 2 }) := fun s pick hs => step_charge hs rfl
  exact ⟨hstep, fun p pick => ⟨_, run_succ_of_next (hstep _ pick (ready_start p _ [])) 0, rfl, rfl, rfl⟩⟩

/-- Settles O4: the charge of a software interrupt has one possible cost and no extra one. -/
theorem swInterruptCost : Obligations.SwInterruptCost := by
  have hstep : ∀ (s : State) (pick : Cost), s.Ready ⟨.swInterrupt, pick⟩ →
      step s = .next (s.charge { c := 21, r := 2, w := 2 }) := fun s pick hs => step_charge hs rfl
  exact ⟨hstep, fun p pick => ⟨_, run_succ_of_next (hstep _ pick (ready_start p _ [])) 0, rfl, rfl⟩⟩

/-- Settles O6: the rule of the two rows is that of an exception, which reads no facts. -/
theorem bptXfcCostAnException : Obligations.BptXfcCostAnException := by
  intro s e hs i hi
  have hrule : ruleOf i = exceptionRule := by
    rcases List.mem_pair.mp hi with rfl | rfl <;> rfl
  have hexec : exec i s = initiateException s := by rw [exec_eq_runRule, hrule, initiateException]
  exact ⟨chargesDraw_of_eq (by decide) (hexec.trans (runRule_ready hs exceptionRule)), hexec⟩

/-- Settles O19: the one cell of each row is the fixed cost stated, and the size chooses one of the two cells of INDEX. HALT is a row
like the others. -/
theorem miscellaneousCost : Obligations.MiscellaneousCost := by
  intro s e hs
  refine ⟨fun i hi => exec_of_fixedCell hs ?psw, fun i hi => exec_of_fixedCell hs ?halt, fun i hi => exec_of_fixedCell hs ?nop,
    fun hone => exec_of_fixed hs (if_pos hone), fun hnot => exec_of_fixed hs (if_neg (by simp [hnot]))⟩
  all_goals
    revert i
    decide

/-- Settles O23: the one cell of each of the rows is the fixed cost or the range stated. -/
theorem operatingSystemCost : Obligations.OperatingSystemCost := by
  intro s e hs
  refine ⟨fun i hi => exec_of_fixedCell hs (cellsOf_chm i hi), fun i hi => ?ldpctx, fun i hi => ?svpctx,
    fun i hi => ?processorRegister, fun i hi => ?probe, fun i hi => ?rei⟩
  case ldpctx | svpctx | rei =>
    obtain rfl := List.mem_singleton.mp hi
    exact exec_of_rangeCell hs rfl
  case processorRegister | probe => rcases List.mem_pair.mp hi with rfl | rfl <;> exact exec_of_rangeCell hs rfl

/-- Settles O13: the one cell of each of the rows is one cycle. -/
theorem addressMoveCost : Obligations.AddressMoveCost := by
  intro s e hs i hi
  refine exec_of_fixedCell hs ?_
  revert i
  decide

/-- Settles O21: each queue row has one cell, a fixed cost with its reads and writes. -/
theorem queueCost : Obligations.QueueCost := by
  intro s e hs
  refine ⟨fun i hi => ?insqhi, fun i hi => ?insqti, fun i hi => ?insque, fun i hi => ?remqhi, fun i hi => ?remqti,
    fun i hi => ?remque⟩
  all_goals
    obtain rfl := List.mem_singleton.mp hi
    exact exec_of_fixedCell hs rfl

/-- Settles O25: the 21 rows are those of the emulated family, whose cells follow from the number of operands. -/
theorem emulatedCost : Obligations.EmulatedCost := by
  intro s e hs i hi
  obtain ⟨hmin, hmax, hcells⟩ := cellsOf_emulated i hi
  exact ⟨hmin, hmax, exec_of_fixedCell hs hcells⟩

/-- Settles O51: `MINU` is the minimum of the numbers of two modes, and the cell of the four rows names no mode. -/
theorem chmStackIsTheMinimum : Obligations.ChmStackIsTheMinimum := by
  refine ⟨fun row hrow => ?rows, rfl, rfl, rfl, rfl, rfl, fun i => chmMode_isSome_iff, fun i current => Option.isSome_map⟩
  have hmode : chmMode row.1 = some row.2 := by
    revert row
    decide
  have hchm : row.1 ∈ ([.chme, .chmk, .chms, .chmu] : List Instr) := by
    revert row
    decide
  exact ⟨hmode, fun current => ⟨_, chmStack_of_chmMode hmode current, modeNumber_minu _ _⟩,
    fun s e hs => exec_of_fixedCell hs (cellsOf_chm _ hchm)⟩

/-- Settles O53: each example is a run of one or two events that draw, and cycles are monotone in the cost; the typical pick is a
member of the exception's draw. -/
theorem workedExamples : Obligations.WorkedExamples := by
  rintro d rfl
  have hrei : ∀ p, eventCharge p (.instr (.name "REI") {}) = some (.draw { c := 16 } { c := 21 } {}) :=
    fun p => eventCharge_name .rei p {}
  have hchmk : ∀ p, eventCharge p (.instr (.name "CHMK") {}) =
      some (.draw { c := 12, r := 1, w := 3 } { c := 12, r := 1, w := 3 } {}) :=
    fun p => eventCharge_name .chmk p {}
  have haddp4 : ∀ p, eventCharge p (.instr (.name "ADDP4") {}) =
      some (.draw { c := 11, r := 1, w := 8, pfl := 1 } { c := 11, r := 1, w := 8, pfl := 1 } {}) :=
    fun p => eventCharge_name .addp4 p {}
  refine ⟨fun p pick ev lo hi hmem => ?one, fun p => ?typical, fun p pick pick' => ?systemService, fun p pick pick' => ?interrupt⟩
  case one =>
    have hdraw : ∃ least greatest : Cost, eventCharge p ev = some (.draw least greatest {}) ∧ least.le greatest ∧
        least.eval ⟨4, 5, 6, 2, 3⟩ = lo ∧ greatest.eval ⟨4, 5, 6, 2, 3⟩ = hi := by
      simp only [List.mem_cons, Prod.mk.injEq, List.not_mem_nil, or_false] at hmem
      obtain ⟨rfl, rfl, rfl⟩ | ⟨rfl, rfl, rfl⟩ | ⟨rfl, rfl, rfl⟩ | ⟨rfl, rfl, rfl⟩ | ⟨rfl, rfl, rfl⟩ |
        ⟨rfl, rfl, rfl⟩ := hmem
      · exact ⟨_, _, rfl, by decide, rfl, rfl⟩
      · exact ⟨_, _, rfl, by decide, rfl, rfl⟩
      · exact ⟨_, _, rfl, by decide, rfl, rfl⟩
      · exact ⟨_, _, hchmk p, by decide, rfl, rfl⟩
      · exact ⟨_, _, hrei p, by decide, rfl, rfl⟩
      · exact ⟨_, _, haddp4 p, by decide, rfl, rfl⟩
    obtain ⟨least, greatest, hev, hle, hleast, hgreatest⟩ := hdraw
    exact run_one_eval hev hle hleast hgreatest pick
  case typical =>
    have hstep := (exceptionCost _ { c := 35, r := 2, w := 3 } (ready_start p _ [])).2 (by decide)
    exact ⟨_, run_succ_of_next hstep 0, rfl⟩
  case systemService => exact run_two_inDraw (hchmk p) (by decide) (hrei p) (by decide) pick pick'
  case interrupt => exact run_two_inDraw (ev := .hwInterrupt) rfl (by decide) (hrei p) (by decide) pick pick'
end
